-- ==== Sys2Proof/Word.lean ====
section
/-! DEFINITION. The word types of the block: one abbreviation per format of R70, and a word together with the
channel it travels on (the channel fixes the length and the decoder, R70, R71). -/

namespace Sys2Proof

/-- A byte on the wire (R105). -/
abbrev Byte := BitVec 8

/-- A 16-bit value: a coordinate, a color, an offset or a parameter (R8, R80). -/
abbrev Half := BitVec 16

/-- A host request word RQ (R80). -/
abbrev RQWord := BitVec 128

/-- A response word RS (R87). -/
abbrev RSWord := BitVec 32

/-- A script step word SW (R75). -/
abbrev SWWord := BitVec 36

/-- A transport operation word TO (R90). -/
abbrev TOWord := BitVec 36

/-- A transport response word TR (R93). -/
abbrev TRWord := BitVec 16

/-- A word and the channel it stands on: RQ on the host request channel, SW in the script ROM, TO (`op`) on the transport
operation channel. An SW and a TO word may have the same bits: only the channel tells them apart (R70). -/
inductive ChannelWord where
  | rq (w : RQWord)
  | sw (w : SWWord)
  | op (w : TOWord)
  deriving DecidableEq, Repr

end Sys2Proof
end

