-- ==== Sys2Proof/Config.lean ====
section
/-! DEFINITION. The construction parameters of the block (R8 to R14) and their defaults. They are latched at
construction and never change (R33), so they are a field of the state. The block has no free value: the spec's
free draws are the transport's responses, which are inputs (assumption 1). -/

namespace Sys2Proof

/-- The script ROM (R50): SCRIPT_LEN words of 36 bits, the word at index `i` being the `i`-th of the list. -/
abbrev Memory := List SWWord

/-- The form a script ROM has (R8): SCRIPT_LEN is 1 to 65535. -/
def Memory.wf (m : Memory) : Bool := decide (1 ≤ m.length) && decide (m.length ≤ 65535)

/-- The construction parameters of R8, each with the width of R8's table. -/
structure Config where
  panelW : Half
  panelH : Half
  colOffset : Half
  rowOffset : Half
  rgbOrder : Bool
  script : Memory
  opCaset : Byte
  opRaset : Byte
  opRamwr : Byte
  opNop : Byte
  tRstAssertMs : Half
  tRstReleaseMs : Half
  setPixelTrailingNop : Bool
  deriving DecidableEq, Repr

/-- SCRIPT_LEN, the length of SCRIPT in words (R12). -/
def Config.scriptLen (c : Config) : Half := BitVec.ofNat 16 c.script.length

/-- R8's defaults, around a SCRIPT the integrator supplies (R12: no default). -/
def Config.defaults (script : Memory) : Config where
  panelW := 128
  panelH := 160
  colOffset := 0
  rowOffset := 0
  rgbOrder := false
  script := script
  opCaset := 0x2A
  opRaset := 0x2B
  opRamwr := 0x2C
  opNop := 0x00
  tRstAssertMs := 10
  tRstReleaseMs := 120
  setPixelTrailingNop := true

/-- The defaults around an unprogrammed script ROM: one all-zero word, which R76 makes no legal step.
DESIGN CHOICE (assumption 7): the spec gives SCRIPT no default. -/
def Config.unprogrammed : Config := Config.defaults [0]

end Sys2Proof
end

