-- ==== Sys2Proof/Syntax.lean ====
section
/-! DEFINITION. The instructions: one constructor of `Instr` per row of the opcode table, and the same instructions
grouped by the channel that carries them (requests, script steps, transport operations). -/

namespace Sys2Proof

/-- A window: four unsigned 16-bit pixel coordinates, inclusive bounds (R150). -/
structure Window where
  x0 : Half
  y0 : Half
  x1 : Half
  y1 : Half
  deriving DecidableEq, Repr

/-- A host request of format RQ (R81). `init` is INITIALIZE, under its assembly name (R97). -/
inductive Request where
  | reset
  | init
  | setWindowColor (w : Window) (color : Half)
  | setPixel (x y color : Half)
  | shutdown
  deriving DecidableEq, Repr

/-- A script step of format SW (R76). `endMark` is END. -/
inductive ScriptStep where
  | start
  | cmd (byte : Byte)
  | data (byte : Byte)
  | delay (ms : BitVec 32)
  | endMark
  deriving DecidableEq, Repr

/-- A transport operation of format TO (R91). -/
inductive TransportOp where
  | assertReset
  | releaseReset
  | selectCmd
  | selectData
  | transfer (byte : Byte)
  | sleep (ms : BitVec 32)
  deriving DecidableEq, Repr

/-- One constructor per row of the opcode table; the first two letters name the row's format. -/
inductive Instr where
  | rqReset
  | rqInitialize
  | rqSetWindowColor (x0 y0 x1 y1 color : Half)
  | rqSetPixel (x y color : Half)
  | rqShutdown
  | swStart
  | swCmd (byte : Byte)
  | swData (byte : Byte)
  | swDelay (ms : BitVec 32)
  | swEnd
  | toAssertReset
  | toReleaseReset
  | toSelectCmd
  | toSelectData
  | toTransfer (byte : Byte)
  | toSleep (ms : BitVec 32)
  deriving DecidableEq, Repr

/-- The instruction a request is. -/
def Request.instr : Request → Instr
  | .reset => .rqReset
  | .init => .rqInitialize
  | .setWindowColor w color => .rqSetWindowColor w.x0 w.y0 w.x1 w.y1 color
  | .setPixel x y color => .rqSetPixel x y color
  | .shutdown => .rqShutdown

/-- The instruction a script step is. -/
def ScriptStep.instr : ScriptStep → Instr
  | .start => .swStart
  | .cmd b => .swCmd b
  | .data b => .swData b
  | .delay ms => .swDelay ms
  | .endMark => .swEnd

/-- The instruction a transport operation is. -/
def TransportOp.instr : TransportOp → Instr
  | .assertReset => .toAssertReset
  | .releaseReset => .toReleaseReset
  | .selectCmd => .toSelectCmd
  | .selectData => .toSelectData
  | .transfer b => .toTransfer b
  | .sleep ms => .toSleep ms

end Sys2Proof
end

