-- ==== Sys2Proof/WellFormed.lean ====
section
/-! DEFINITION. Well-formedness. An instruction has nothing to check: every operand has exactly the width of its field
and every value of it is legal as syntax (R77, R82, R91), so every term of `Instr` is well formed. What can be ill formed
is a construction: R8's legal ranges. -/

namespace Sys2Proof

/-- R8's legal ranges: PANEL_W and PANEL_H are not 0 (R9), and SCRIPT_LEN is 1 to 65535 (R12). Every other parameter's
range is its whole width. -/
def Config.wellFormed (c : Config) : Bool :=
  c.panelW != 0 && c.panelH != 0 && Memory.wf c.script

end Sys2Proof
end

