-- ==== Sys2Proof/Decode.lean ====
section
/-! DEFINITION. Decoding (R85, R86, R91) and, after it, the encoder (R82, R77, R91), the assembler's two
pseudo-instructions (R96, R98), and the decoder as the opcode table numbers its words. -/

namespace Sys2Proof

/-! ## Decoding -/

/-- `decodeRQ` (R85): total on every 128-bit word; `none` is Illegal (R83). -/
def decodeRQ (rq : RQWord) : Option Request :=
  let opc := rq.extractLsb' 0 8
  if opc = 0x01 ∧ rq.extractLsb' 8 120 = 0 then some .reset
  else if opc = 0x02 ∧ rq.extractLsb' 8 120 = 0 then some .init
  else if opc = 0x03 ∧ rq.extractLsb' 8 8 = 0 ∧ rq.extractLsb' 96 32 = 0 then
    some (.setWindowColor
      { x0 := rq.extractLsb' 32 16, y0 := rq.extractLsb' 48 16,
        x1 := rq.extractLsb' 64 16, y1 := rq.extractLsb' 80 16 } (rq.extractLsb' 16 16))
  else if opc = 0x04 ∧ rq.extractLsb' 8 8 = 0 ∧ rq.extractLsb' 64 64 = 0 then
    some (.setPixel (rq.extractLsb' 32 16) (rq.extractLsb' 48 16) (rq.extractLsb' 16 16))
  else if opc = 0x05 ∧ rq.extractLsb' 8 120 = 0 then some .shutdown
  else none

/-- TAG of a script step word (R75). -/
def swTag (w : SWWord) : BitVec 4 := w.extractLsb' 32 4

/-- `decodeSW` (R86): total on every 36-bit word; `none` is Illegal (R78). -/
def decodeSW (w : SWWord) : Option ScriptStep :=
  if swTag w = 0x1 ∧ w.extractLsb' 0 32 = 0 then some .start
  else if swTag w = 0x2 ∧ w.extractLsb' 8 24 = 0 then some (.cmd (w.extractLsb' 0 8))
  else if swTag w = 0x3 ∧ w.extractLsb' 8 24 = 0 then some (.data (w.extractLsb' 0 8))
  else if swTag w = 0x4 then some (.delay (w.extractLsb' 0 32))
  else if swTag w = 0xF ∧ w.extractLsb' 0 32 = 0 then some .endMark
  else none

/-- The transport operation a TO word carries (R91); `none` is a word the block never issues (R92). -/
def decodeTO (w : TOWord) : Option TransportOp :=
  let kind := w.extractLsb' 32 4
  if kind = 0x1 ∧ w.extractLsb' 0 32 = 0 then some .assertReset
  else if kind = 0x2 ∧ w.extractLsb' 0 32 = 0 then some .releaseReset
  else if kind = 0x3 ∧ w.extractLsb' 0 32 = 0 then some .selectCmd
  else if kind = 0x4 ∧ w.extractLsb' 0 32 = 0 then some .selectData
  else if kind = 0x5 ∧ w.extractLsb' 8 24 = 0 then some (.transfer (w.extractLsb' 0 8))
  else if kind = 0x6 then some (.sleep (w.extractLsb' 0 32))
  else none

/-- The decoder: the channel chooses the decode function (R70, R71). -/
def decode : ChannelWord → Option Instr
  | .rq w => (decodeRQ w).map Request.instr
  | .sw w => (decodeSW w).map ScriptStep.instr
  | .op w => (decodeTO w).map TransportOp.instr

/-! ## Encoding -/

/-- The RQ word of a request (R82, R97). -/
def Request.word : Request → RQWord
  | .reset => 0x00000000000000000000000000000001
  | .init => 0x00000000000000000000000000000002
  | .setWindowColor w color =>
    (0 : BitVec 32) ++ w.y1 ++ w.x1 ++ w.y0 ++ w.x0 ++ color ++ (0 : BitVec 8) ++ (0x03 : BitVec 8)
  | .setPixel x y color => (0 : BitVec 64) ++ y ++ x ++ color ++ (0 : BitVec 8) ++ (0x04 : BitVec 8)
  | .shutdown => 0x00000000000000000000000000000005

/-- The SW word of a script step (R77, R95). -/
def ScriptStep.word : ScriptStep → SWWord
  | .start => 0x100000000
  | .cmd b => (0x2 : BitVec 4) ++ (0 : BitVec 24) ++ b
  | .data b => (0x3 : BitVec 4) ++ (0 : BitVec 24) ++ b
  | .delay ms => (0x4 : BitVec 4) ++ ms
  | .endMark => 0xF00000000

/-- The TO word of a transport operation (R91). -/
def TransportOp.word : TransportOp → TOWord
  | .assertReset => 0x100000000
  | .releaseReset => 0x200000000
  | .selectCmd => 0x300000000
  | .selectData => 0x400000000
  | .transfer b => (0x5 : BitVec 4) ++ (0 : BitVec 24) ++ b
  | .sleep ms => (0x6 : BitVec 4) ++ ms

/-- The encoder: the word of an instruction, on its own channel. -/
def encode : Instr → ChannelWord
  | .rqReset => .rq (Request.word .reset)
  | .rqInitialize => .rq (Request.word .init)
  | .rqSetWindowColor x0 y0 x1 y1 color =>
    .rq (Request.word (.setWindowColor { x0 := x0, y0 := y0, x1 := x1, y1 := y1 } color))
  | .rqSetPixel x y color => .rq (Request.word (.setPixel x y color))
  | .rqShutdown => .rq (Request.word .shutdown)
  | .swStart => .sw (ScriptStep.word .start)
  | .swCmd b => .sw (ScriptStep.word (.cmd b))
  | .swData b => .sw (ScriptStep.word (.data b))
  | .swDelay ms => .sw (ScriptStep.word (.delay ms))
  | .swEnd => .sw (ScriptStep.word .endMark)
  | .toAssertReset => .op (TransportOp.word .assertReset)
  | .toReleaseReset => .op (TransportOp.word .releaseReset)
  | .toSelectCmd => .op (TransportOp.word .selectCmd)
  | .toSelectData => .op (TransportOp.word .selectData)
  | .toTransfer b => .op (TransportOp.word (.transfer b))
  | .toSleep ms => .op (TransportOp.word (.sleep ms))

/-! ## The assembler's pseudo-instructions -/

/-- `REG op, b1, ..., bn` (R96): CMD op, then one DATA step per byte, in order. -/
def expandReg (op : Byte) (bytes : List Byte) : List ScriptStep :=
  .cmd op :: bytes.map .data

/-- `CLEAR color` (R98): FILL 0, 0, PANEL_W-1, PANEL_H-1, color. -/
def expandClear (c : Config) (color : Half) : Request :=
  .setWindowColor { x0 := 0, y0 := 0, x1 := c.panelW - 1, y1 := c.panelH - 1 } color

/-! ## The opcode table's numbering -/

/-- The instruction the decoder reads from the word `w` of `nbits` bits. SW and TO words have the same length and the
opcode table names no channel, so a short word is read as a transport operation first and, where it is none, as a script
step (DESIGN CHOICE, assumption 9): 0x1_0000_0000 is ASSERT_RESET, although in the script ROM it is START. -/
def decodeTableWord (nbits w : Nat) : Option Instr :=
  if nbits ≤ 40 then
    if w < 2 ^ 36 then
      match decode (.op (BitVec.ofNat 36 w)) with
      | some i => some i
      | none => decode (.sw (BitVec.ofNat 36 w))
    else none
  else if w < 2 ^ 128 then decode (.rq (BitVec.ofNat 128 w)) else none

end Sys2Proof
end

