-- ==== Sys2Proof/Machine/State.lean ====
section
/-! DEFINITION. The state of the block: the six registers of R21, the configuration of R8, the hidden sequencer state of
R30, and the words that stand on its channels. All of it is plain data. -/

namespace Sys2Proof.Machine

/-- STATE, the Driver Facade lifecycle (R22). The values 6 and 7 of the register are never held (U21), so they are no
constructor (assumption 15). -/
inductive Lifecycle where
  | uninit
  | resetting
  | scriptRunning
  | ready
  | shutdown
  | faulted
  deriving DecidableEq, Repr

/-- BUSMODE (R24); `none` is NONE, no mode known. The value 3 is never held (U21). -/
inductive BusMode where
  | none
  | command
  | data
  deriving DecidableEq, Repr

/-- The error codes of R220; `ok` is code 0. -/
inductive ErrCode where
  | ok
  | transportFailure
  | notReady
  | usageViolation
  | configurationError
  | illegalRequest
  deriving DecidableEq, Repr

/-- The pixel counters of R156: the position `(x, y)` of the next pixel of the burst and its number `k` from 0. -/
structure PixelCounters where
  x : Half
  y : Half
  k : Nat
  deriving DecidableEq, Repr

/-- Why the machine stops. No fault is reachable from a construction of a legal configuration (R136). -/
inductive Fault where
  /-- A script fetch at an index at or beyond SCRIPT_LEN, where ScriptRead is not defined (R50). Raised by the fetch.
  Safe: the spec says that no rule reads there. -/
  | scriptOutOfRange
  /-- The walk fetched a word that decodes to Illegal: the unreachable fault arm of R136. Raised by the fetch. Safe: the
  spec says that no such word is ever decoded by the walk. -/
  | illegalStep
  deriving DecidableEq, Repr

/-- Why an instruction has no meaning. -/
inductive Refusal where
  /-- The instruction of this mnemonic has no meaning yet. Raised by `exec` alone. Safe. -/
  | notModelled (mnemonic : String)
  deriving DecidableEq, Repr

/-- Everything the spec gives the block (R21, R30), and the words on its channels (R40, R42). -/
structure State where
  /-- STATE (R22). -/
  lifecycle : Lifecycle
  /-- BUSY (R25). -/
  busy : Bool
  /-- BUSMODE (R24). -/
  busMode : BusMode
  /-- OWNED, also the output `bus_owned` (R26). -/
  owned : Bool
  /-- LAST_ERR (R28). -/
  lastErr : ErrCode
  /-- SPC (R31). -/
  spc : Half
  /-- The configuration and SCRIPT, latched at construction (R33). -/
  config : Config
  /-- The accepted request, while its body runs (R30). -/
  held : Option Request
  /-- The operations of the current group of the body that are still to be issued, in order (R30). -/
  pending : List TransportOp
  /-- The next pixel of a burst, while pixels remain (R30, R156). -/
  burst : Option PixelCounters
  /-- The transport operation whose response is awaited (R30, R42). -/
  outstanding : Option TransportOp
  /-- A response with FAIL = 1 has arrived and its error entry has not run yet (R222; assumption 6). -/
  failed : Bool
  /-- The request words the host has still to offer, the one on offer first (R40, R48; assumption 2). -/
  requests : List RQWord
  /-- The responses the transport has still to give, the next one first (R42, R44; assumption 1). -/
  responses : List TRWord
  /-- The transport operations issued so far, in order (R27). -/
  issued : List TOWord
  /-- The responses received so far, one per answered operation, in order (R48). -/
  answered : List TRWord
  /-- The response words delivered so far, in order (R27, R40). -/
  replies : List RSWord
  deriving DecidableEq, Repr

/-- Construction, the block's only reset (R250): the reset values of R45 around the construction parameters, with nothing
on the channels yet. -/
def State.construct (c : Config) : State where
  lifecycle := .uninit
  busy := false
  busMode := .none
  owned := true
  lastErr := .ok
  spc := 0
  config := c
  held := none
  pending := []
  burst := none
  outstanding := none
  failed := false
  requests := []
  responses := []
  issued := []
  answered := []
  replies := []

/-- The machine right after reset: the construction with R8's default parameters and an unprogrammed script ROM
(assumption 7). -/
def State.reset : State := State.construct Config.unprogrammed

end Sys2Proof.Machine
end

