-- ==== Sys2Proof/Machine/Flags.lean ====
section
/-! DEFINITION. The numeric codes of the registers and the flag rules: what a response does to BUSMODE (R100). -/

namespace Sys2Proof.Machine

/-- The 3-bit encoding of STATE (R22). -/
def lifecycleCode : Lifecycle → BitVec 3
  | .uninit => 0
  | .resetting => 1
  | .scriptRunning => 2
  | .ready => 3
  | .shutdown => 4
  | .faulted => 5

/-- The 2-bit encoding of BUSMODE (R24). -/
def busModeCode : BusMode → BitVec 2
  | .none => 0
  | .command => 1
  | .data => 2

/-- The 8-bit error codes (R220). -/
def errCode : ErrCode → BitVec 8
  | .ok => 0
  | .transportFailure => 1
  | .notReady => 2
  | .usageViolation => 3
  | .configurationError => 4
  | .illegalRequest => 5

/-- FAIL of a transport response (R93): the only bit of TR the block reads (R94). -/
def trFail (tr : TRWord) : Bool := tr.getLsbD 0

/-- BUSMODE after the response to `op` (R100): a successful select sets the mode it names, a failed select leaves no
mode known, and no other operation touches it. -/
def busModeAfter (op : TransportOp) (fail : Bool) (mode : BusMode) : BusMode :=
  match op with
  | .selectCmd => if fail then .none else .command
  | .selectData => if fail then .none else .data
  | .assertReset => mode
  | .releaseReset => mode
  | .transfer _ => mode
  | .sleep _ => mode

/-- The terminal states, in which every legal request is answered NOT_READY (R184). -/
def isTerminal (l : Lifecycle) : Bool :=
  match l with
  | .shutdown => true
  | .faulted => true
  | .uninit => false
  | .resetting => false
  | .scriptRunning => false
  | .ready => false

/-- STATE after the entry action of an error: FAULTED for a transport failure (R223) and a configuration error (R224),
unchanged for the others (R225). -/
def lifecycleAfterError (e : ErrCode) (l : Lifecycle) : Lifecycle :=
  match e with
  | .transportFailure => .faulted
  | .configurationError => .faulted
  | .ok => l
  | .notReady => l
  | .usageViolation => l
  | .illegalRequest => l

/-- The response word `{21'b0, STATE, ERR}` (R87). -/
def rsWord (l : Lifecycle) (e : ErrCode) : RSWord :=
  (0 : BitVec 21) ++ lifecycleCode l ++ errCode e

end Sys2Proof.Machine
end

