-- ==== Sys2Proof/Machine/Operands.lean ====
section
/-! DEFINITION. The operand forms: byte halves (R53), calibrated coordinates (R152), window validity and size (R150, R151),
the zero-extended hold times (R188). -/

namespace Sys2Proof.Machine

/-- `v[15:8]`, the byte sent first (R53). -/
def hiByte (v : Half) : Byte := v.extractLsb' 8 8

/-- `v[7:0]`, the byte sent second (R53). -/
def loByte (v : Half) : Byte := v.extractLsb' 0 8

/-- A column coordinate with COL_OFFSET added, modulo 2^16 (R152). -/
def calibratedColumn (c : Config) (v : Half) : Half := v + c.colOffset

/-- A row coordinate with ROW_OFFSET added, modulo 2^16 (R152). -/
def calibratedRow (c : Config) (v : Half) : Half := v + c.rowOffset

/-- `validWindow` (R151): not inverted, and inside the panel. -/
def validWindow (c : Config) (w : Window) : Bool :=
  decide (w.x0 ≤ w.x1) && decide (w.x1 < c.panelW) && decide (w.y0 ≤ w.y1) && decide (w.y1 < c.panelH)

/-- SET_PIXEL's range check (R192): on the pixel, not on the window it sends. -/
def validPixel (c : Config) (x y : Half) : Bool :=
  decide (x < c.panelW) && decide (y < c.panelH)

/-- The width of a window in pixels (R150). -/
def windowWidth (w : Window) : Nat := w.x1.toNat - w.x0.toNat + 1

/-- The height of a window in pixels (R150). -/
def windowHeight (w : Window) : Nat := w.y1.toNat - w.y0.toNat + 1

/-- The window SET_PIXEL sends for the pixel `(x, y)` (R192). -/
def pixelWindow (x y : Half) : Window := { x0 := x, y0 := y, x1 := x + 1, y1 := y + 1 }

/-- A 16-bit hold time as the 32-bit operand of SLEEP (R188). -/
def holdTime (ms : Half) : BitVec 32 := ms.zeroExtend 32

end Sys2Proof.Machine
end

