-- ==== Sys2Proof/Machine/Ops.lean ====
section
/-! DEFINITION. The named operations over the state: issuing a transport operation and receiving its response (the two
block steps of `emit`, R100), delivering a response (R182), raising an error (R222), beginning a body (R181), and reading
the script ROM (R50). The block has no return from an error (R228). -/

namespace Sys2Proof.Machine

/-- The outcome type of a step of this machine. -/
abbrev Result := Host.Outcome State Fault Refusal

/-- `ScriptRead(i)` (R50): the word at index `i`, where there is one. -/
def scriptRead (m : Memory) (i : Half) : Option SWWord := m[i.toNat]?

/-- `finish(err)` (R182): LAST_ERR and BUSY are written, the response word carries STATE as it stands, and the sequencer is
idle again: no request held, nothing pending or outstanding. -/
def finish (err : ErrCode) (s : State) : State :=
  { s with
    lastErr := err
    busy := false
    held := none
    pending := []
    burst := none
    outstanding := none
    failed := false
    replies := s.replies ++ [rsWord s.lifecycle err] }

/-- `raise E` (R222): E's entry action (R223, R224, R225), then `finish(E)`, in one block step (R229). -/
def raiseError (err : ErrCode) (s : State) : State :=
  finish err { s with lifecycle := lifecycleAfterError err s.lifecycle }

/-- Acceptance of a request whose pre-checks have passed and that has a body (R181): BUSY is set, STATE becomes `l`, the
request is held, and `ops` are the first operations of its sequence; `burst` is the first pixel of a burst. -/
def beginBody (r : Request) (l : Lifecycle) (ops : List TransportOp) (burst : Option PixelCounters) (s : State) :
    State :=
  { s with
    busy := true
    lifecycle := l
    held := some r
    pending := ops
    burst := burst
    outstanding := none
    failed := false }

/-- The issue of one TO (R42, R100): it is outstanding until its response arrives. -/
def issueOp (op : TransportOp) (s : State) : State :=
  { s with
    outstanding := some op
    issued := s.issued ++ [op.word] }

/-- `SPC <- SPC + 1` (R126): the walk goes on to the next script step. -/
def nextScriptStep (s : State) : State := { s with spc := s.spc + 1 }

/-- After the last operation of a script step has succeeded, SPC moves to the next step (R126); inside a step, and in any
other body, SPC stays (R31). -/
def endOfGroup (s : State) : State :=
  if s.pending = [] ∧ s.held = some .init then nextScriptStep s else s

/-- The receipt of the response `tr` to `op` (R100): BUSMODE by R100; FAIL = 1 raises TransportFailure, whose entry is the
next block step (assumption 6); the echoed byte and TR[7:1] are discarded (R94). `rest` are the responses after it. -/
def receiveResponse (op : TransportOp) (tr : TRWord) (rest : List TRWord) (s : State) : State :=
  let received : State :=
    { s with
      outstanding := none
      responses := rest
      answered := s.answered ++ [tr]
      busMode := busModeAfter op (trFail tr) s.busMode }
  if trFail tr then { received with failed := true } else endOfGroup received

/-- The next block step of `emit(op)` (R100): issue `op`; once it is outstanding, receive its response, or wait where the
transport has not answered (no timeout: R41, R262). While another operation is outstanding, `op` is not issued (R42). -/
def emitOp (op : TransportOp) (s : State) : Result :=
  match s.outstanding with
  | none => .next (issueOp op s)
  | some awaited =>
    if awaited = op then
      match s.responses with
      | [] => .next s
      | tr :: rest => .next (receiveResponse op tr rest s)
    else .next s

/-- The start of a script step that issues operations: the first is issued at once, the others stand pending (R126). While
an operation is outstanding nothing is issued (R42). -/
def emitGroup (first : TransportOp) (others : List TransportOp) (s : State) : Result :=
  match s.outstanding with
  | none => .next (issueOp first { s with pending := others })
  | some _ => .next s

/-- Acceptance of a request (R40, R181): only while BUSY = 0. While BUSY = 1, `req_ready` is 0 and the request is not
accepted: nothing happens (R260). -/
def acceptWhenReady (accepted : State → State) (s : State) : Result :=
  if s.busy then .next s else .next (accepted s)

end Sys2Proof.Machine
end

