-- ==== Sys2Proof/Machine/Framer.lean ====
section
/-! DEFINITION. The operation sequences the block issues, as lists: the Framer calls (R107, R108), the reset pulse (R188),
setWindow (R153), the pixel burst and writePixels (R155, R156), SET_PIXEL (R192), and the script walk (R127). -/

namespace Sys2Proof.Machine

/-- `sendCommand(b)` (R107): the select is never omitted. -/
def sendCommand (b : Byte) : List TransportOp := [.selectCmd, .transfer b]

/-- `sendData(b)` (R108): the select is never omitted. -/
def sendData (b : Byte) : List TransportOp := [.selectData, .transfer b]

/-- A 16-bit value as two data bytes, high byte first (R53, R158). -/
def sendHalf (v : Half) : List TransportOp := sendData (hiByte v) ++ sendData (loByte v)

/-- `setWindow` (R153), with calibrated coordinates (R152). -/
def setWindow (c : Config) (w : Window) : List TransportOp :=
  sendCommand c.opCaset ++ sendHalf (calibratedColumn c w.x0) ++ sendHalf (calibratedColumn c w.x1) ++
    sendCommand c.opRaset ++ sendHalf (calibratedRow c w.y0) ++ sendHalf (calibratedRow c w.y1)

/-- The pixel `k` of a burst (R156): row-major from `(x0, y0)`, x fastest. -/
def pixelAt (w : Window) (k : Nat) : PixelCounters where
  x := w.x0 + BitVec.ofNat 16 (k % windowWidth w)
  y := w.y0 + BitVec.ofNat 16 (k / windowWidth w)
  k := k

/-- The pixels of a burst in order (R155, R156). -/
def pixelsOf (w : Window) : List PixelCounters :=
  (List.range (windowWidth w * windowHeight w)).map (pixelAt w)

/-- `writePixels` (R155) for a color source `src(k, x, y)` (R157): the window, the memory-write command once, two data
bytes per pixel, the trailing no-op. -/
def writePixels (c : Config) (w : Window) (src : Nat → Half → Half → Half) : List TransportOp :=
  setWindow c w ++ sendCommand c.opRamwr ++ (pixelsOf w).flatMap (fun p => sendHalf (src p.k p.x p.y)) ++
    sendCommand c.opNop

/-- The constant color source of SET_WINDOW_COLOR (R157). -/
def constantSource (color : Half) : Nat → Half → Half → Half := fun _ _ _ => color

/-- The counters after the pixel `p` (R155): `x` steps first, then `y`; none after the last pixel. -/
def nextPixel (w : Window) (p : PixelCounters) : Option PixelCounters :=
  if p.x < w.x1 then some { x := p.x + 1, y := p.y, k := p.k + 1 }
  else if p.y < w.y1 then some { x := w.x0, y := p.y + 1, k := p.k + 1 }
  else none

/-- The operations of the pixel `p` of a burst (R155): its two data bytes and, after the last pixel, the trailing no-op. -/
def pixelGroup (c : Config) (w : Window) (src : Nat → Half → Half → Half) (p : PixelCounters) : List TransportOp :=
  sendHalf (src p.k p.x p.y) ++ (if nextPixel w p = none then sendCommand c.opNop else [])

/-- RESET's four operations (R188). -/
def resetSequence (c : Config) : List TransportOp :=
  [.assertReset, .sleep (holdTime c.tRstAssertMs), .releaseReset, .sleep (holdTime c.tRstReleaseMs)]

/-- SET_WINDOW_COLOR's operations before its pixels (R155). -/
def burstOpening (c : Config) (w : Window) : List TransportOp := setWindow c w ++ sendCommand c.opRamwr

/-- SET_PIXEL's operations (R192, R193). -/
def setPixelSequence (c : Config) (x y color : Half) : List TransportOp :=
  setWindow c (pixelWindow x y) ++ sendCommand c.opRamwr ++ sendHalf color ++
    (if c.setPixelTrailingNop then sendCommand c.opNop else [])

/-- The operations of one script step (R127). -/
def stepOps : ScriptStep → List TransportOp
  | .start => []
  | .cmd b => sendCommand b
  | .data b => sendData b
  | .delay ms => [.sleep ms]
  | .endMark => []

end Sys2Proof.Machine
end

