-- ==== Sys2Proof/Machine/Script.lean ====
section
/-! DEFINITION. The Script Interpreter: the well-formedness check (R121), the operations of the walk (R127), and the five
script steps (R130 to R134). -/

namespace Sys2Proof.Machine

/-- Whether a word's TAG is not 0xF: the words before the end index (R121). -/
def beforeEnd (w : SWWord) : Bool := swTag w != 0xF

/-- Whether a word is a CMD, DATA or DELAY step (R121). -/
def isBodyStep (w : SWWord) : Bool :=
  match decodeSW w with
  | some .start => false
  | some (.cmd _) => true
  | some (.data _) => true
  | some (.delay _) => true
  | some .endMark => false
  | none => false

/-- The words between index 0 and the end index (R121). -/
def bodyWords (m : Memory) : List SWWord := m.tail.takeWhile beforeEnd

/-- The words from the end index on; empty where there is no word of TAG 0xF after index 0 (R121). -/
def endWords (m : Memory) : List SWWord := m.tail.dropWhile beforeEnd

/-- The end index `e`: the least index from 1 on whose TAG is 0xF (R121). -/
def endIndex (m : Memory) : Nat := 1 + (bodyWords m).length

/-- `WellFormed(SCRIPT)` (R121): at least two words; the word 0 is START; the first word of TAG 0xF after it is exactly END;
every word between them is CMD, DATA or DELAY. Words after the end index are not read (R125). -/
def wellFormedScript (m : Memory) : Bool :=
  decide (2 ≤ m.length) &&
  (m.head?.bind decodeSW == some .start) &&
  ((endWords m).head? == some (ScriptStep.word .endMark)) &&
  (bodyWords m).all isBodyStep

/-- The steps a list of words spells, Illegal words left out. -/
def stepsOf (ws : List SWWord) : List ScriptStep := ws.filterMap decodeSW

/-- The operations of the whole walk, in index order (R127). -/
def walkOps (m : Memory) : List TransportOp := (stepsOf (bodyWords m)).flatMap stepOps

/-- START (R130): nothing is issued; the walk goes on to the next step. -/
def execStart (s : State) : Result := .next (nextScriptStep s)

/-- The start of the walk (R126): `SPC <- 0`, and the START that stands there in a well-formed script (R121) is passed.
Both fall in INITIALIZE's accepting step (R252, R58; assumptions 3 and 5). -/
def startWalk (s : State) : State := nextScriptStep { s with spc := 0 }

/-- CMD b (R131): `sendCommand(b)`; SPC moves on after its last response (R126). -/
def execCmd (b : Byte) (s : State) : Result := emitGroup .selectCmd [.transfer b] s

/-- DATA b (R132): `sendData(b)`; SPC moves on after its last response (R126). -/
def execData (b : Byte) (s : State) : Result := emitGroup .selectData [.transfer b] s

/-- DELAY ms (R133): one SLEEP with the step's MS unchanged; SPC moves on after its response (R126). -/
def execDelay (ms : BitVec 32) (s : State) : Result := emitGroup (.sleep ms) [] s

/-- END (R134): the walk returns with SPC at the end index, and with it INITIALIZE's last two statements run in the same
block step: STATE is READY and the response is delivered (R189, R182; assumption 17). -/
def execEnd (s : State) : Result := .next (finish .ok { s with lifecycle := .ready })

end Sys2Proof.Machine
end

