-- ==== Sys2Proof/Machine/Requests.lean ====
section
/-! DEFINITION. The five host requests (R188 to R194): each meaning is the acceptance step of its request (R181), which
checks, then refuses, answers, or begins the body. -/

namespace Sys2Proof.Machine

/-- The first two checks of RESET, INITIALIZE and SHUTDOWN in R185's order: NOT_READY in a terminal state (R184), then
USAGE_VIOLATION outside the request's one source state (D13). -/
def lifecycleCheck (source : Lifecycle) (l : Lifecycle) : Option ErrCode :=
  if isTerminal l then some .notReady else if l = source then none else some .usageViolation

/-- The checks of a pixel request in R185's order: NOT_READY outside READY (R190), then USAGE_VIOLATION for coordinates out
of range. -/
def pixelCheck (inRange : Bool) (l : Lifecycle) : Option ErrCode :=
  if l = .ready then (if inRange then none else some .usageViolation) else some .notReady

/-- RESET's checks (R188). -/
def checkReset (s : State) : Option ErrCode := lifecycleCheck .uninit s.lifecycle

/-- INITIALIZE's checks (R189): the script is checked last (R185). -/
def checkInitialize (s : State) : Option ErrCode :=
  match lifecycleCheck .resetting s.lifecycle with
  | some e => some e
  | none => if wellFormedScript s.config.script then none else some .configurationError

/-- SET_WINDOW_COLOR's checks (R191). -/
def checkSetWindowColor (w : Window) (s : State) : Option ErrCode :=
  pixelCheck (validWindow s.config w) s.lifecycle

/-- SET_PIXEL's checks (R192). -/
def checkSetPixel (x y : Half) (s : State) : Option ErrCode :=
  pixelCheck (validPixel s.config x y) s.lifecycle

/-- SHUTDOWN's checks (R194). -/
def checkShutdown (s : State) : Option ErrCode := lifecycleCheck .ready s.lifecycle

/-- RESET (R188): STATE is RESETTING from the accepting step on, and the four operations of the reset pulse follow. -/
def execReset (s : State) : Result :=
  acceptWhenReady
    (fun s =>
      match checkReset s with
      | some e => raiseError e s
      | none => beginBody .reset .resetting (resetSequence s.config) none s) s

/-- INITIALIZE (R189): STATE is SCRIPT_RUNNING, SPC is 0 and, START being passed in the same block step, then 1; the rest of
the walk follows (R126). -/
def execInitialize (s : State) : Result :=
  acceptWhenReady
    (fun s =>
      match checkInitialize s with
      | some e => raiseError e s
      | none => startWalk (beginBody .init .scriptRunning [] none s)) s

/-- SET_WINDOW_COLOR (R191): the window and the memory-write command, then the burst from the pixel `(x0, y0)` (R155). -/
def execSetWindowColor (x0 y0 x1 y1 color : Half) (s : State) : Result :=
  let w : Window := { x0 := x0, y0 := y0, x1 := x1, y1 := y1 }
  acceptWhenReady
    (fun s =>
      match checkSetWindowColor w s with
      | some e => raiseError e s
      | none =>
        beginBody (.setWindowColor w color) s.lifecycle (burstOpening s.config w)
          (some { x := w.x0, y := w.y0, k := 0 }) s) s

/-- SET_PIXEL (R192): the window `{x, y, x+1, y+1}`, the memory-write command, one pixel, and the trailing no-op where the
parameter says so (R193). -/
def execSetPixel (x y color : Half) (s : State) : Result :=
  acceptWhenReady
    (fun s =>
      match checkSetPixel x y s with
      | some e => raiseError e s
      | none => beginBody (.setPixel x y color) s.lifecycle (setPixelSequence s.config x y color) none s) s

/-- SHUTDOWN (R194): ownership is released and the request is answered in the accepting step; no operation is issued. -/
def execShutdown (s : State) : Result :=
  acceptWhenReady
    (fun s =>
      match checkShutdown s with
      | some e => raiseError e s
      | none => finish .ok { s with owned := false, lifecycle := .shutdown }) s

end Sys2Proof.Machine
end

