-- ==== Sys2Proof/Machine/Transport.lean ====
section
/-! DEFINITION. The six transport operations (R101 to R106): each meaning is the next block step of its `emit` (R100). -/

namespace Sys2Proof.Machine

/-- ASSERT_RESET (R101). -/
def execAssertReset (s : State) : Result := emitOp .assertReset s

/-- RELEASE_RESET (R102). -/
def execReleaseReset (s : State) : Result := emitOp .releaseReset s

/-- SELECT_CMD (R103): BUSMODE is COMMAND once it has succeeded, NONE once it has failed. -/
def execSelectCmd (s : State) : Result := emitOp .selectCmd s

/-- SELECT_DATA (R104): BUSMODE is DATA once it has succeeded, NONE once it has failed. -/
def execSelectData (s : State) : Result := emitOp .selectData s

/-- TRANSFER(b) (R105): the byte is sent unchanged, the echo is discarded. -/
def execTransfer (b : Byte) (s : State) : Result := emitOp (.transfer b) s

/-- SLEEP(n) (R106): issued for every n, 0 too; the duration is the transport's duty (assumption 13). -/
def execSleep (ms : BitVec 32) (s : State) : Result := emitOp (.sleep ms) s

end Sys2Proof.Machine
end

