-- ==== Sys2Proof/Machine/Dispatch.lean ====
section
/-! DEFINITION. Which meaning each instruction has. -/

namespace Sys2Proof.Machine

def exec (i : Instr) (s : State) : Host.Outcome State Fault Refusal :=
  match i with
  | .rqReset => Sys2Proof.Machine.execReset s
  | .rqInitialize => Sys2Proof.Machine.execInitialize s
  | .rqSetWindowColor x0 y0 x1 y1 color => Sys2Proof.Machine.execSetWindowColor x0 y0 x1 y1 color s
  | .rqSetPixel x y color => Sys2Proof.Machine.execSetPixel x y color s
  | .rqShutdown => Sys2Proof.Machine.execShutdown s
  | .swStart => Sys2Proof.Machine.execStart s
  | .swCmd byte => Sys2Proof.Machine.execCmd byte s
  | .swData byte => Sys2Proof.Machine.execData byte s
  | .swDelay ms => Sys2Proof.Machine.execDelay ms s
  | .swEnd => Sys2Proof.Machine.execEnd s
  | .toAssertReset => Sys2Proof.Machine.execAssertReset s
  | .toReleaseReset => Sys2Proof.Machine.execReleaseReset s
  | .toSelectCmd => Sys2Proof.Machine.execSelectCmd s
  | .toSelectData => Sys2Proof.Machine.execSelectData s
  | .toTransfer byte => Sys2Proof.Machine.execTransfer byte s
  | .toSleep ms => Sys2Proof.Machine.execSleep ms s

end Sys2Proof.Machine
end

