-- ==== Sys2Proof/Machine/Fetch.lean ====
section
/-! DEFINITION. What the next block step is: the instruction it runs, fetched from the request channel, the script ROM or
the operation sequence of the body in progress, or the block step it is otherwise (a delivery, a wait). -/

namespace Sys2Proof.Machine

/-- What the fetch found: an instruction to run in the state after its words were taken, or the outcome of a block step
that runs no instruction. -/
inductive Fetched where
  | run (i : Instr) (s : State)
  | done (o : Result)
  deriving Repr

/-- When the operations of a group have all been issued and answered and pixels of the burst remain, the next pixel's
operations stand pending and the counters step on (R155, R156). -/
def loadPixel (s : State) : State :=
  match s.pending, s.burst, s.held with
  | [], some p, some (.setWindowColor w color) =>
    { s with
      pending := pixelGroup s.config w (constantSource color) p
      burst := nextPixel w p }
  | _, _, _ => s

/-- The fetch of the script step at SPC (R126). A word beyond SCRIPT_LEN or an Illegal word is a fault (R50, R136). -/
def fetchScript (s : State) : Fetched :=
  match scriptRead s.config.script s.spc with
  | none => .done (.fault .scriptOutOfRange)
  | some w =>
    match decodeSW w with
    | none => .done (.fault .illegalStep)
    | some st => .run st.instr s

/-- The body goes on: the next pending operation; where none is left, the next script step of INITIALIZE, or the delivery
of OK (R182). -/
def fetchBody (s : State) : Fetched :=
  match s.pending with
  | op :: rest => .run op.instr { s with pending := rest }
  | [] => if s.held = some .init then fetchScript s else .done (.next (finish .ok s))

/-- While BUSY = 1: an outstanding operation awaits its response (R42); a raised TransportFailure is entered (R223);
otherwise the body goes on. -/
def fetchBusy (s : State) : Fetched :=
  match s.outstanding with
  | some op => .run op.instr s
  | none => if s.failed then .done (.next (raiseError .transportFailure s)) else fetchBody (loadPixel s)

/-- While BUSY = 0: the request on offer is taken (R40) and decoded; an illegal word is answered ILLEGAL_REQUEST (R183);
with none on offer the block waits. -/
def fetchRequest (s : State) : Fetched :=
  match s.requests with
  | [] => .done (.next s)
  | rq :: rest =>
    match decodeRQ rq with
    | some r => .run r.instr { s with requests := rest }
    | none => .done (.next (raiseError .illegalRequest { s with requests := rest }))

/-- The next block step's instruction (R58). -/
def fetch (s : State) : Fetched := if s.busy then fetchBusy s else fetchRequest s

/-! ## Placing a word where the next step fetches it -/

/-- The script ROM with the word `w` at index `i`, all-zero words filling a gap. -/
def placeScript (m : Memory) (i : Nat) (w : SWWord) : Memory :=
  m.take i ++ List.replicate (i - m.length) 0 ++ [w] ++ m.drop (i + 1)

/-- The state in which the walk of INITIALIZE fetches `w` next. -/
def withScriptWord (s : State) (w : SWWord) : State :=
  { s with
    busy := true
    held := some .init
    pending := []
    outstanding := none
    failed := false
    config := { s.config with script := placeScript s.config.script s.spc.toNat w } }

/-- The state in which a body's next operation is `op`. -/
def withOperation (s : State) (op : TransportOp) : State :=
  { s with
    busy := true
    pending := [op]
    outstanding := none
    failed := false }

/-- The state in which the host offers `w`. -/
def withRequest (s : State) (w : RQWord) : State :=
  { s with
    busy := false
    requests := w :: s.requests }

/-- `s` with the instruction of `nbits` bits `w` where the next step fetches it: a long word on the request channel; a short
word as `decodeTableWord` reads it, as the next operation of a body, or, where it is no transport operation, in the script
ROM at SPC with INITIALIZE's walk in progress (assumptions 9 and 19). -/
def placeWord (s : State) (nbits w : Nat) : State :=
  if nbits ≤ 40 then
    match decodeTO (BitVec.ofNat 36 w) with
    | some op => withOperation s op
    | none => withScriptWord s (BitVec.ofNat 36 w)
  else withRequest s (BitVec.ofNat 128 w)

end Sys2Proof.Machine
end

