-- ==== Sys2Proof/Machine/StatusPort.lean ====
section
/-! DEFINITION. The status read port (R34 to R39) and the block's two level outputs. A read is a pure function of the state
between two block steps (R58): it has no side effect and is no step. -/

namespace Sys2Proof.Machine

/-- A flag as one bit. -/
def flagBit (b : Bool) : BitVec 1 := BitVec.ofBool b

/-- STATUS (R35): `{16'h0000, LAST_ERR, 1'b0, OWNED, BUSMODE, BUSY, STATE}`. -/
def statusWord (s : State) : BitVec 32 :=
  (0 : BitVec 16) ++ errCode s.lastErr ++ (0 : BitVec 1) ++ flagBit s.owned ++ busModeCode s.busMode ++
    flagBit s.busy ++ lifecycleCode s.lifecycle

/-- CFG_GEOM (R36). -/
def cfgGeom (c : Config) : BitVec 32 := c.panelH ++ c.panelW

/-- CFG_OFFS (R36). -/
def cfgOffs (c : Config) : BitVec 32 := c.rowOffset ++ c.colOffset

/-- CFG_OPC (R37). -/
def cfgOpc (c : Config) : BitVec 32 := c.opNop ++ c.opRamwr ++ c.opRaset ++ c.opCaset

/-- CFG_MISC (R37): SCRIPT_LEN in the high half, SETPIXEL_TRAILING_NOP in bit 1, RGB_ORDER in bit 0. -/
def cfgMisc (c : Config) : BitVec 32 :=
  c.scriptLen ++ (0 : BitVec 14) ++ flagBit c.setPixelTrailingNop ++ flagBit c.rgbOrder

/-- CFG_RST (R38). -/
def cfgRst (c : Config) : BitVec 32 := c.tRstReleaseMs ++ c.tRstAssertMs

/-- DIAG (R39). -/
def diagWord (s : State) : BitVec 32 := (0 : BitVec 16) ++ s.spc

/-- `st_data` for `st_addr` (R34): the reserved indices 0x7 to 0xF read as zero. -/
def statusRead (s : State) (index : BitVec 4) : BitVec 32 :=
  if index = 0x0 then statusWord s
  else if index = 0x1 then cfgGeom s.config
  else if index = 0x2 then cfgOffs s.config
  else if index = 0x3 then cfgOpc s.config
  else if index = 0x4 then cfgMisc s.config
  else if index = 0x5 then cfgRst s.config
  else if index = 0x6 then diagWord s
  else 0

/-- The signal `req_ready` (R40). -/
def reqReady (s : State) : Bool := !s.busy

/-- The output signal `bus_owned` (R26). -/
def busOwned (s : State) : Bool := s.owned

end Sys2Proof.Machine
end

