-- ==== Sys2Proof/Safety.lean ====
section
/-! DEFINITION. The terms claims are stated in: what a consistent state is, what a trace is, what a request's whole body is,
and a run of several block steps. -/

namespace Sys2Proof.Machine

/-! ## Runs -/

/-- `n` block steps, stopping at the first fault or refusal. -/
def runFor : Nat → State → Result
  | 0, s => .next s
  | n + 1, s =>
    match step s with
    | .next t => runFor n t
    | .fault f => .fault f
    | .refused r => .refused r

/-- Whether a run has ended (R48): every request offered is answered and BUSY = 0. -/
def runEnded (s : State) : Bool := s.requests.isEmpty && !s.busy

/-! ## Consistent states -/

/-- No request is held and nothing is in progress (R45). -/
def HiddenIdle (s : State) : Prop :=
  s.held = none ∧ s.pending = [] ∧ s.burst = none ∧ s.outstanding = none ∧ s.failed = false

/-- The walk of a well-formed script is past START and at or before the end index, and before the end index while an
operation of its step is still to be issued or answered (R126, R136). -/
def WalkPosition (s : State) : Prop :=
  wellFormedScript s.config.script = true ∧ 1 ≤ s.spc.toNat ∧ s.spc.toNat ≤ endIndex s.config.script ∧
    (s.pending ≠ [] ∨ s.outstanding ≠ none → s.spc.toNat < endIndex s.config.script)

/-- The pixel counters of a burst over `w` stand at the pixel their number names (R156). -/
def BurstPosition (w : Window) (s : State) : Prop :=
  ∀ p, s.burst = some p → p.k < windowWidth w * windowHeight w ∧ p = pixelAt w p.k

/-- While BUSY = 1: the request held, the STATE its body runs in, and the position in its body. -/
def BodyPosition (s : State) : Prop :=
  match s.held with
  | none => False
  | some .reset => s.lifecycle = .resetting ∧ s.burst = none
  | some .init => s.lifecycle = .scriptRunning ∧ s.burst = none ∧ WalkPosition s
  | some (.setWindowColor w _) => s.lifecycle = .ready ∧ validWindow s.config w = true ∧ BurstPosition w s
  | some (.setPixel x y _) => s.lifecycle = .ready ∧ s.burst = none ∧ validPixel s.config x y = true
  | some .shutdown => False

/-- The invariant of the block: a legal configuration (R8), ownership until SHUTDOWN (R26), no raised failure beside an
outstanding operation, and either a body in progress or an idle sequencer outside SCRIPT_RUNNING (R22, R30). -/
def Consistent (s : State) : Prop :=
  s.config.wellFormed = true ∧ (s.owned = false ↔ s.lifecycle = .shutdown) ∧
    (s.failed = true → s.outstanding = none) ∧
    (s.busy = true → BodyPosition s) ∧
    (s.busy = false → HiddenIdle s ∧ s.lifecycle ≠ .scriptRunning)

/-! ## Traces -/

/-- Whether every response of a list has FAIL = 0. -/
def allOk (answers : List TRWord) : Bool := answers.all (fun tr => !trFail tr)

/-- BUSMODE after a trace (R100), each issued word with its response, in order: a select that succeeded sets its mode, a
select that failed sets NONE, nothing else touches it. -/
def modeOfTrace (trace : List (TOWord × TRWord)) : BusMode :=
  trace.foldl
    (fun mode e =>
      if e.1 = 0x300000000 then (if e.2.getLsbD 0 then .none else .command)
      else if e.1 = 0x400000000 then (if e.2.getLsbD 0 then .none else .data)
      else mode) .none

/-- The trace is kept in step with the sequencer: one response per issued operation but for the one outstanding, which is
the last one issued (R42). -/
def TraceInStep (s : State) : Prop :=
  s.issued.length = s.answered.length + (if s.outstanding.isSome then 1 else 0) ∧
    ∀ op, s.outstanding = some op → s.issued.getLast? = some op.word

/-- Whether a word is a TRANSFER word (R91). -/
def isTransferWord (w : TOWord) : Bool := w.extractLsb' 32 4 == 0x5

/-- Whether a word is SELECT_CMD or SELECT_DATA (R91). -/
def isSelectWord (w : TOWord) : Bool := w == 0x300000000 || w == 0x400000000

/-- R109 over a trace: a TRANSFER at index `i` stands directly after a select, at index `i - 1`, whose response had
FAIL = 0. -/
def TransfersFollowSelects (s : State) : Prop :=
  ∀ i w, s.issued[i]? = some w → isTransferWord w = true →
    1 ≤ i ∧ (∃ v, s.issued[i - 1]? = some v ∧ isSelectWord v = true) ∧
      (∃ tr, s.answered[i - 1]? = some tr ∧ trFail tr = false)

/-- Whether each TRANSFER of a sequence stands directly after a select; `afterSelect` says whether a select stands directly
before the sequence. -/
def framed (afterSelect : Bool) : List TransportOp → Bool
  | [] => true
  | .selectCmd :: ops => framed true ops
  | .selectData :: ops => framed true ops
  | .transfer _ :: ops => afterSelect && framed false ops
  | .assertReset :: ops => framed false ops
  | .releaseReset :: ops => framed false ops
  | .sleep _ :: ops => framed false ops

/-- Whether an operation is a select. -/
def isSelect (op : TransportOp) : Bool :=
  match op with
  | .selectCmd => true
  | .selectData => true
  | .assertReset => false
  | .releaseReset => false
  | .transfer _ => false
  | .sleep _ => false

/-- Whether the operation directly before the pending ones is a select that has not failed: the outstanding one, or the
last one issued, whose response had FAIL = 0. -/
def selectStands (s : State) : Bool :=
  match s.outstanding with
  | some op => isSelect op
  | none => s.issued.getLast?.any isSelectWord && s.answered.getLast?.any (fun tr => !trFail tr)

/-- What is still pending continues the trace by R107 and R108: a TRANSFER comes first only after a select. -/
def PendingFramed (s : State) : Prop := s.failed = false → framed (selectStands s) s.pending = true

/-- Whether a TO word is one the block may issue (R92): a KIND of 1 to 6, and ARG[31:8] zero under the kinds 1 to 5. -/
def mayIssue (w : TOWord) : Bool :=
  let kind := w.extractLsb' 32 4
  decide (1 ≤ kind.toNat) && decide (kind.toNat ≤ 6) && (kind == 0x6 || w.extractLsb' 8 24 == 0)

/-! ## Requests as wholes -/

/-- The checks of a request at acceptance, in R185's order. -/
def checkRequest (r : Request) (s : State) : Option ErrCode :=
  match r with
  | .reset => checkReset s
  | .init => checkInitialize s
  | .setWindowColor w _ => checkSetWindowColor w s
  | .setPixel x y _ => checkSetPixel x y s
  | .shutdown => checkShutdown s

/-- The state in which the body of a request whose checks have passed begins; SHUTDOWN has no body and is answered at
once (R188, R189, R191, R192, R194). -/
def beginRequest (r : Request) (s : State) : State :=
  match r with
  | .reset => beginBody r .resetting (resetSequence s.config) none s
  | .init => startWalk (beginBody r .scriptRunning [] none s)
  | .setWindowColor w _ =>
    beginBody r s.lifecycle (burstOpening s.config w) (some { x := w.x0, y := w.y0, k := 0 }) s
  | .setPixel x y color => beginBody r s.lifecycle (setPixelSequence s.config x y color) none s
  | .shutdown => finish .ok { s with owned := false, lifecycle := .shutdown }

/-- The whole operation sequence of a request that succeeds (R188, R127, R155, R192, R194). -/
def bodyOps (c : Config) (r : Request) : List TransportOp :=
  match r with
  | .reset => resetSequence c
  | .init => walkOps c.script
  | .setWindowColor w color => writePixels c w (constantSource color)
  | .setPixel x y color => setPixelSequence c x y color
  | .shutdown => []

/-- STATE after a request that succeeds (R196). -/
def successLifecycle (r : Request) (l : Lifecycle) : Lifecycle :=
  match r with
  | .reset => .resetting
  | .init => .ready
  | .setWindowColor _ _ => l
  | .setPixel _ _ _ => l
  | .shutdown => .shutdown

/-- SPC after a request that succeeds (R31): the end index after INITIALIZE, unchanged after any other. -/
def successSpc (c : Config) (r : Request) (spc : Half) : Half :=
  match r with
  | .init => BitVec.ofNat 16 (endIndex c.script)
  | .reset => spc
  | .setWindowColor _ _ => spc
  | .setPixel _ _ _ => spc
  | .shutdown => spc

/-- BUSMODE after operations that all succeed (R100). -/
def modeAfterOps (ops : List TransportOp) (mode : BusMode) : BusMode :=
  ops.foldl (fun m op => busModeAfter op false m) mode

/-- The script index of each operation of the walk, in the order of issue (R129). -/
def walkIndices (m : Memory) : List Nat :=
  ((stepsOf (bodyWords m)).zipIdx 1).flatMap (fun e => List.replicate (stepOps e.1).length e.2)

/-- The bytes a sequence of operations transfers, in order. -/
def bytesOf (ops : List TransportOp) : List Byte :=
  ops.filterMap (fun op =>
    match op with
    | .transfer b => some b
    | .assertReset => none
    | .releaseReset => none
    | .selectCmd => none
    | .selectData => none
    | .sleep _ => none)

end Sys2Proof.Machine
end

