-- ==== Sys2Proof/Certificates/Slice0/Obligations.lean ====
section
/-! DEFINITION. The statements about the block, for the provers. Each is about every state, operand, configuration or
script its words allow; none is about a program. -/

open Sys2Proof Sys2Proof.Machine

/-! ## Construction and the status port -/

/-- R45: the construction value of every piece of state, for every configuration. -/
def Obligations.ConstructionValues : Prop :=
  ∀ c : Config,
    (State.construct c).lifecycle = .uninit ∧ lifecycleCode (State.construct c).lifecycle = 0 ∧
    (State.construct c).busy = false ∧ (State.construct c).busMode = .none ∧
    busModeCode (State.construct c).busMode = 0 ∧ (State.construct c).owned = true ∧
    errCode (State.construct c).lastErr = 0 ∧ (State.construct c).spc = 0 ∧ HiddenIdle (State.construct c) ∧
    (State.construct c).config = c ∧ statusRead (State.construct c) 0x0 = 0x00000040 ∧
    statusRead (State.construct c) 0x6 = 0

/-- R8's defaults stand in `State.reset`. Its script ROM, one unprogrammed word, is the model's choice (assumption 7): the
spec gives SCRIPT no default. -/
def Obligations.ResetHoldsDefaultParameters : Prop :=
  State.reset = State.construct Config.unprogrammed ∧
    State.reset.config.panelW = 128 ∧ State.reset.config.panelH = 160 ∧ State.reset.config.colOffset = 0 ∧
    State.reset.config.rowOffset = 0 ∧ State.reset.config.rgbOrder = false ∧ State.reset.config.opCaset = 0x2A ∧
    State.reset.config.opRaset = 0x2B ∧ State.reset.config.opRamwr = 0x2C ∧ State.reset.config.opNop = 0x00 ∧
    State.reset.config.tRstAssertMs = 10 ∧ State.reset.config.tRstReleaseMs = 120 ∧
    State.reset.config.setPixelTrailingNop = true ∧ State.reset.config.script = [0]

/-- R35 to R38: every field of STATUS and of the five configuration registers, their values at construction with the
defaults, and that no block step changes a configuration register; with the codes that stand in the fields STATE (R22),
BUSMODE (R24) and LAST_ERR (R220). -/
def Obligations.StatusRegisterFields : Prop :=
  (lifecycleCode .uninit = 0 ∧ lifecycleCode .resetting = 1 ∧ lifecycleCode .scriptRunning = 2 ∧
    lifecycleCode .ready = 3 ∧ lifecycleCode .shutdown = 4 ∧ lifecycleCode .faulted = 5 ∧
    busModeCode .none = 0 ∧ busModeCode .command = 1 ∧ busModeCode .data = 2 ∧
    errCode .ok = 0 ∧ errCode .transportFailure = 1 ∧ errCode .notReady = 2 ∧ errCode .usageViolation = 3 ∧
    errCode .configurationError = 4 ∧ errCode .illegalRequest = 5) ∧
  (∀ s : State,
    (statusRead s 0x0).extractLsb' 0 3 = lifecycleCode s.lifecycle ∧
    (statusRead s 0x0).getLsbD 3 = s.busy ∧
    (statusRead s 0x0).extractLsb' 4 2 = busModeCode s.busMode ∧
    (statusRead s 0x0).getLsbD 6 = s.owned ∧
    (statusRead s 0x0).getLsbD 7 = false ∧
    (statusRead s 0x0).extractLsb' 8 8 = errCode s.lastErr ∧
    (statusRead s 0x0).extractLsb' 16 16 = 0 ∧
    (statusRead s 0x1).extractLsb' 0 16 = s.config.panelW ∧
    (statusRead s 0x1).extractLsb' 16 16 = s.config.panelH ∧
    (statusRead s 0x2).extractLsb' 0 16 = s.config.colOffset ∧
    (statusRead s 0x2).extractLsb' 16 16 = s.config.rowOffset ∧
    (statusRead s 0x3).extractLsb' 0 8 = s.config.opCaset ∧
    (statusRead s 0x3).extractLsb' 8 8 = s.config.opRaset ∧
    (statusRead s 0x3).extractLsb' 16 8 = s.config.opRamwr ∧
    (statusRead s 0x3).extractLsb' 24 8 = s.config.opNop ∧
    (statusRead s 0x4).getLsbD 0 = s.config.rgbOrder ∧
    (statusRead s 0x4).getLsbD 1 = s.config.setPixelTrailingNop ∧
    (statusRead s 0x4).extractLsb' 2 14 = 0 ∧
    (statusRead s 0x4).extractLsb' 16 16 = s.config.scriptLen ∧
    (statusRead s 0x5).extractLsb' 0 16 = s.config.tRstAssertMs ∧
    (statusRead s 0x5).extractLsb' 16 16 = s.config.tRstReleaseMs) ∧
  (∀ m : Memory,
    statusRead (State.construct (Config.defaults m)) 0x0 = 0x00000040 ∧
    statusRead (State.construct (Config.defaults m)) 0x1 = 0x00A00080 ∧
    statusRead (State.construct (Config.defaults m)) 0x2 = 0x00000000 ∧
    statusRead (State.construct (Config.defaults m)) 0x3 = 0x002C2B2A ∧
    statusRead (State.construct (Config.defaults m)) 0x5 = 0x0078000A) ∧
  (∀ s t : State, step s = .next t →
    statusRead t 0x1 = statusRead s 0x1 ∧ statusRead t 0x2 = statusRead s 0x2 ∧ statusRead t 0x3 = statusRead s 0x3 ∧
      statusRead t 0x4 = statusRead s 0x4 ∧ statusRead t 0x5 = statusRead s 0x5)

/-- R39's layout of DIAG and R34's reserved indices. -/
def Obligations.DiagAndReservedIndices : Prop :=
  ∀ s : State,
    (statusRead s 0x6).extractLsb' 0 16 = s.spc ∧ (statusRead s 0x6).extractLsb' 16 16 = 0 ∧
    ∀ i : BitVec 4, 7 ≤ i.toNat → statusRead s i = 0

/-! ## The step and the decoder -/

/-- A block step runs the instruction that stands where it fetches: the request on offer (taken from the channel), the
outstanding operation, the next pending operation (taken from the list), the script step at SPC (SPC is moved by the
instruction, not by the fetch), and, where a pixel of a burst is next, the first operation of that pixel: SELECT_DATA, with
the high byte, SELECT_DATA and the low byte to follow, then SELECT_CMD and the no-op command after the last pixel alone, and
with the counters moved to the next pixel (the hidden counters move with this issue by assumption 18). -/
def Obligations.StepRunsDecodedInstruction : Prop :=
  (∀ (s : State) (rq : RQWord) (rest : List RQWord) (i : Instr),
    s.busy = false → s.requests = rq :: rest → decode (.rq rq) = some i →
      step s = exec i { s with requests := rest }) ∧
  (∀ (s : State) (op : TransportOp),
    s.busy = true → s.outstanding = some op → step s = exec op.instr s) ∧
  (∀ (s : State) (op : TransportOp) (ops : List TransportOp),
    s.busy = true → s.outstanding = none → s.failed = false → s.pending = op :: ops →
      step s = exec op.instr { s with pending := ops }) ∧
  (∀ (s : State) (w : SWWord) (i : Instr),
    s.busy = true → s.outstanding = none → s.failed = false → s.pending = [] → s.held = some .init →
      scriptRead s.config.script s.spc = some w → decode (.sw w) = some i → step s = exec i s) ∧
  (∀ (s : State) (p : PixelCounters) (w : Window) (color : Half),
    s.busy = true → s.outstanding = none → s.failed = false → s.pending = [] → s.burst = some p →
      s.held = some (.setWindowColor w color) →
      step s =
        exec .toSelectData { s with
          pending :=
            [.transfer (color.extractLsb' 8 8), .selectData, .transfer (color.extractLsb' 0 8)] ++
              (if p.x.toNat < w.x1.toNat ∨ p.y.toNat < w.y1.toNat then []
                else [.selectCmd, .transfer s.config.opNop])
          burst :=
            if p.x.toNat < w.x1.toNat then some { x := p.x + 1, y := p.y, k := p.k + 1 }
            else if p.y.toNat < w.y1.toNat then some { x := w.x0, y := p.y + 1, k := p.k + 1 }
            else none })

/-- Words written out from the encoding tables decode to the instructions they stand for: one per opcode-table row, the
operands with values that tell the fields apart. -/
def Obligations.SampleWordsDecode : Prop :=
  decode (.rq 0x00000000000000000000000000000001) = some .rqReset ∧
  decode (.rq 0x00000000000000000000000000000002) = some .rqInitialize ∧
  decode (.rq 0x00000000009F007F00020001ABCD0003) = some (.rqSetWindowColor 1 2 127 159 0xABCD) ∧
  decode (.rq 0x000000000000000000070005F8000004) = some (.rqSetPixel 5 7 0xF800) ∧
  decode (.rq 0x00000000000000000000000000000005) = some .rqShutdown ∧
  decode (.rq 0x00000000000000000000000000000101) = none ∧
  decode (.rq 0x000000000000000100070005F8000004) = none ∧
  decode (.sw 0x100000000) = some .swStart ∧ decode (.sw 0x20000003A) = some (.swCmd 0x3A) ∧
  decode (.sw 0x3000000FF) = some (.swData 0xFF) ∧ decode (.sw 0x4000001F4) = some (.swDelay 500) ∧
  decode (.sw 0xF00000000) = some .swEnd ∧ decode (.sw 0xF00000001) = none ∧ decode (.sw 0) = none ∧
  decode (.op 0x100000000) = some .toAssertReset ∧ decode (.op 0x200000000) = some .toReleaseReset ∧
  decode (.op 0x300000000) = some .toSelectCmd ∧ decode (.op 0x400000000) = some .toSelectData ∧
  decode (.op 0x5000000A5) = some (.toTransfer 0xA5) ∧ decode (.op 0x6FFFFFFFF) = some (.toSleep 4294967295)

/-- Every instruction, at every value of every operand, is read back from its own word. -/
def Obligations.DecodeOfEncode : Prop := ∀ i : Instr, decode (encode i) = some i

/-- A word that decodes is the word of what it decodes to: on its channel no instruction has two words, and no bit of a
legal word is ignored. -/
def Obligations.EncodeOfDecode : Prop := ∀ (w : ChannelWord) (i : Instr), decode w = some i → encode i = w

/-- R82: `(RQ & mask) = match` holds for at most one row, and for exactly one row on exactly the legal words; which row, the
fields a legal word's operands stand in, and that the fields it does not use are zero. -/
def Obligations.LegalRequestsMatchOneRow : Prop :=
  ∀ rq : RQWord,
    let rows : List (RQWord × RQWord) :=
      [(0xFFFFFFFFFFFFFFFFFFFFFFFFFFFFFFFF, 0x00000000000000000000000000000001),
       (0xFFFFFFFFFFFFFFFFFFFFFFFFFFFFFFFF, 0x00000000000000000000000000000002),
       (0xFFFFFFFF00000000000000000000FFFF, 0x00000000000000000000000000000003),
       (0xFFFFFFFFFFFFFFFF000000000000FFFF, 0x00000000000000000000000000000004),
       (0xFFFFFFFFFFFFFFFFFFFFFFFFFFFFFFFF, 0x00000000000000000000000000000005)]
    let matching := rows.filter (fun row => rq &&& row.1 == row.2)
    matching.length ≤ 1 ∧ ((decodeRQ rq).isSome = true ↔ matching.length = 1) ∧
    (decodeRQ rq = some .reset ↔ rq = 0x00000000000000000000000000000001) ∧
    (decodeRQ rq = some .init ↔ rq = 0x00000000000000000000000000000002) ∧
    (∀ w color, decodeRQ rq = some (.setWindowColor w color) ↔
      rq.extractLsb' 0 8 = 0x03 ∧ rq.extractLsb' 8 8 = 0 ∧ rq.extractLsb' 96 32 = 0 ∧
        color = rq.extractLsb' 16 16 ∧
        w = { x0 := rq.extractLsb' 32 16, y0 := rq.extractLsb' 48 16,
              x1 := rq.extractLsb' 64 16, y1 := rq.extractLsb' 80 16 }) ∧
    (∀ x y color, decodeRQ rq = some (.setPixel x y color) ↔
      rq.extractLsb' 0 8 = 0x04 ∧ rq.extractLsb' 8 8 = 0 ∧ rq.extractLsb' 64 64 = 0 ∧
        color = rq.extractLsb' 16 16 ∧ x = rq.extractLsb' 32 16 ∧ y = rq.extractLsb' 48 16) ∧
    (decodeRQ rq = some .shutdown ↔ rq = 0x00000000000000000000000000000005)

/-- The illegal script step words: a reserved TAG, or a nonzero must-be-zero field of the TAG. -/
def Obligations.IllegalScriptWords : Prop :=
  ∀ w : SWWord,
    decodeSW w = none ↔
      w.extractLsb' 32 4 = 0x0 ∨ (0x5 ≤ (w.extractLsb' 32 4).toNat ∧ (w.extractLsb' 32 4).toNat ≤ 0xE) ∨
      ((w.extractLsb' 32 4 = 0x1 ∨ w.extractLsb' 32 4 = 0xF) ∧ w.extractLsb' 0 32 ≠ 0) ∨
      ((w.extractLsb' 32 4 = 0x2 ∨ w.extractLsb' 32 4 = 0x3) ∧ w.extractLsb' 8 24 ≠ 0)

/-! ## The requests at acceptance -/

/-- RESET while BUSY = 0, in every STATE: begun in UNINIT with the four operations of the reset pulse pending, refused
otherwise. Every other field is as before. -/
def Obligations.ResetAcceptance : Prop :=
  ∀ s : State, s.busy = false →
    exec .rqReset s =
      .next (match s.lifecycle with
        | .uninit =>
          { s with
            busy := true, lifecycle := .resetting, held := some .reset
            pending := [.assertReset, .sleep (s.config.tRstAssertMs.zeroExtend 32), .releaseReset,
              .sleep (s.config.tRstReleaseMs.zeroExtend 32)]
            burst := none, outstanding := none, failed := false }
        | .resetting => raiseError .usageViolation s
        | .scriptRunning => raiseError .usageViolation s
        | .ready => raiseError .usageViolation s
        | .shutdown => raiseError .notReady s
        | .faulted => raiseError .notReady s)

/-- INITIALIZE while BUSY = 0, in every STATE: begun in RESETTING if the script is well formed, with SPC at 1, past START (that
SPC is set to 0 and START passed in the accepting step is the model's reading, assumptions 3 and 5), a configuration error
there if it is not, refused otherwise. Every other field is as before. -/
def Obligations.InitializeAcceptance : Prop :=
  ∀ s : State, s.busy = false →
    exec .rqInitialize s =
      .next (match s.lifecycle with
        | .resetting =>
          if wellFormedScript s.config.script = true then
            { s with
              busy := true, lifecycle := .scriptRunning, spc := 1, held := some .init
              pending := [], burst := none, outstanding := none, failed := false }
          else raiseError .configurationError s
        | .uninit => raiseError .usageViolation s
        | .scriptRunning => raiseError .usageViolation s
        | .ready => raiseError .usageViolation s
        | .shutdown => raiseError .notReady s
        | .faulted => raiseError .notReady s)

/-- SET_WINDOW_COLOR while BUSY = 0, in every STATE and for every window: begun in READY for a window that is not inverted
and inside the panel, with the 22 operations up to the memory-write command pending; refused otherwise. Every other field is
as before. -/
def Obligations.SetWindowColorAcceptance : Prop :=
  ∀ (s : State) (x0 y0 x1 y1 color : Half), s.busy = false →
    exec (.rqSetWindowColor x0 y0 x1 y1 color) s =
      .next (if s.lifecycle = .ready then
          if x0.toNat ≤ x1.toNat ∧ x1.toNat < s.config.panelW.toNat ∧ y0.toNat ≤ y1.toNat ∧
              y1.toNat < s.config.panelH.toNat then
            { s with
              busy := true
              held := some (.setWindowColor { x0 := x0, y0 := y0, x1 := x1, y1 := y1 } color)
              pending := setWindow s.config { x0 := x0, y0 := y0, x1 := x1, y1 := y1 } ++
                [.selectCmd, .transfer s.config.opRamwr]
              burst := some { x := x0, y := y0, k := 0 }, outstanding := none, failed := false }
          else raiseError .usageViolation s
        else raiseError .notReady s)

/-- SET_PIXEL while BUSY = 0, in every STATE and for every pixel: begun in READY for a pixel inside the panel, with its
whole sequence pending, the window's far corner one beyond the pixel; refused otherwise. Every other field is as before. -/
def Obligations.SetPixelAcceptance : Prop :=
  ∀ (s : State) (x y color : Half), s.busy = false →
    exec (.rqSetPixel x y color) s =
      .next (if s.lifecycle = .ready then
          if x.toNat < s.config.panelW.toNat ∧ y.toNat < s.config.panelH.toNat then
            { s with
              busy := true
              held := some (.setPixel x y color)
              pending := setWindow s.config { x0 := x, y0 := y, x1 := x + 1, y1 := y + 1 } ++
                [.selectCmd, .transfer s.config.opRamwr, .selectData, .transfer (color.extractLsb' 8 8),
                  .selectData, .transfer (color.extractLsb' 0 8)] ++
                (if s.config.setPixelTrailingNop = true then [.selectCmd, .transfer s.config.opNop] else [])
              burst := none, outstanding := none, failed := false }
          else raiseError .usageViolation s
        else raiseError .notReady s)

/-- SHUTDOWN while BUSY = 0, in every STATE: answered OK in READY with ownership released, refused otherwise. Every other
register is as before, and no operation is issued. -/
def Obligations.ShutdownAcceptance : Prop :=
  ∀ s : State, s.busy = false →
    exec .rqShutdown s =
      .next (match s.lifecycle with
        | .ready => finish .ok { s with owned := false, lifecycle := .shutdown }
        | .uninit => raiseError .usageViolation s
        | .resetting => raiseError .usageViolation s
        | .scriptRunning => raiseError .usageViolation s
        | .shutdown => raiseError .notReady s
        | .faulted => raiseError .notReady s)

/-- What raising an error does to every field: the entry action (STATE is FAULTED for a transport failure and a
configuration error, as before for the others), then the response. -/
def Obligations.RaiseErrorEntry : Prop :=
  ∀ (e : ErrCode) (s : State),
    raiseError e s =
      { s with
        lifecycle := if e = .transportFailure ∨ e = .configurationError then .faulted else s.lifecycle
        lastErr := e
        busy := false, held := none, pending := [], burst := none, outstanding := none, failed := false
        replies := s.replies ++
          [(0 : BitVec 21) ++
            lifecycleCode (if e = .transportFailure ∨ e = .configurationError then .faulted else s.lifecycle) ++
            errCode e] }

/-- R183: an illegal word on offer is answered ILLEGAL_REQUEST in every STATE, and no register but LAST_ERR changes. -/
def Obligations.IllegalWordsAnswered : Prop :=
  ∀ (s : State) (rq : RQWord) (rest : List RQWord),
    s.busy = false → s.requests = rq :: rest → decodeRQ rq = none →
      ∃ t, step s = .next t ∧ errCode t.lastErr = 5 ∧
        t.replies = s.replies ++ [(0 : BitVec 21) ++ lifecycleCode s.lifecycle ++ (5 : BitVec 8)] ∧
        t.requests = rest ∧ t.lifecycle = s.lifecycle ∧ t.busy = false ∧ t.busMode = s.busMode ∧
        t.owned = s.owned ∧ t.spc = s.spc ∧ t.config = s.config ∧ t.issued = s.issued ∧
        t.answered = s.answered ∧ t.responses = s.responses

/-- R184: in FAULTED and in SHUTDOWN every legal request is answered NOT_READY, and no operation is issued. -/
def Obligations.TerminalStatesAnswerNotReady : Prop :=
  ∀ (s : State) (rq : RQWord) (rest : List RQWord) (r : Request),
    s.busy = false → s.requests = rq :: rest → decodeRQ rq = some r →
      s.lifecycle = .faulted ∨ s.lifecycle = .shutdown →
      ∃ t, step s = .next t ∧ t.lastErr = .notReady ∧
        t.replies = s.replies ++ [(0 : BitVec 21) ++ lifecycleCode s.lifecycle ++ (2 : BitVec 8)] ∧
        t.lifecycle = s.lifecycle ∧ t.busy = false ∧ t.busMode = s.busMode ∧ t.owned = s.owned ∧ t.spc = s.spc ∧
        t.config = s.config ∧ t.issued = s.issued

/-- R190: a pixel request in any STATE but READY is answered NOT_READY, and no operation is issued. -/
def Obligations.PixelRequestsNeedReady : Prop :=
  ∀ (s : State) (rq : RQWord) (rest : List RQWord) (i : Instr),
    s.busy = false → s.requests = rq :: rest → decode (.rq rq) = some i →
      (∃ x0 y0 x1 y1 color, i = .rqSetWindowColor x0 y0 x1 y1 color) ∨ (∃ x y color, i = .rqSetPixel x y color) →
      s.lifecycle ≠ .ready →
      ∃ t, step s = .next t ∧ t.lastErr = .notReady ∧ t.busy = false ∧ t.lifecycle = s.lifecycle ∧
        t.replies = s.replies ++ [(0 : BitVec 21) ++ lifecycleCode s.lifecycle ++ (2 : BitVec 8)] ∧
        t.issued = s.issued

/-- R197: a request answered with an error at acceptance issues nothing and changes no register but LAST_ERR, and STATE to
FAULTED for a configuration error. -/
def Obligations.RefusalsIssueNothing : Prop :=
  ∀ (s t : State) (rq : RQWord) (rest : List RQWord),
    s.busy = false → s.requests = rq :: rest → step s = .next t → t.busy = false → t.lastErr ≠ .ok →
      t.issued = s.issued ∧ t.busMode = s.busMode ∧ t.owned = s.owned ∧ t.spc = s.spc ∧ t.config = s.config ∧
        (t.lastErr = .configurationError → t.lifecycle = .faulted) ∧
        (t.lastErr ≠ .configurationError → t.lifecycle = s.lifecycle)

/-- While BUSY = 1 no request is accepted: `req_ready` is 0, and the requests on offer stay on offer. That `exec` of a request
in such a state, where no block step runs one, leaves the state as it is is the model's convention (assumption 12). -/
def Obligations.NoRequestWhileBusy : Prop :=
  ∀ s : State, s.busy = true →
    reqReady s = false ∧ (∀ r : Request, exec r.instr s = .next s) ∧
      ∀ t, step s = .next t → t.requests = s.requests

/-! ## The script steps -/

/-- START issues nothing: SPC moves on, and nothing else changes. INITIALIZE's accepting step runs it, at SPC 0 of the body it
begins (the model's reading, assumptions 3 and 5). -/
def Obligations.StartOnlyAdvances : Prop :=
  (∀ s : State, exec .swStart s = .next { s with spc := s.spc + 1 }) ∧
  (∀ s : State, s.busy = false → s.lifecycle = .resetting → wellFormedScript s.config.script = true →
    exec .rqInitialize s =
      exec .swStart { s with
        busy := true, lifecycle := .scriptRunning, spc := 0, held := some .init
        pending := [], burst := none, outstanding := none, failed := false })

/-- CMD b: its first block step issues the select with the transfer pending; and from a walk that stands at it, with two
responses of FAIL = 0, the four block steps issue SELECT_CMD and TRANSFER(b), set BUSMODE to COMMAND and move SPC on (in the
last of them by assumption 4); nothing else changes. -/
def Obligations.CmdSendsCommand : Prop :=
  (∀ (s : State) (b : Byte), s.outstanding = none →
    exec (.swCmd b) s =
      .next { s with
        outstanding := some .selectCmd, pending := [.transfer b]
        issued := s.issued ++ [0x300000000] }) ∧
  (∀ (s : State) (w : SWWord) (b : Byte) (tr1 tr2 : TRWord) (rest : List TRWord),
    s.busy = true → s.outstanding = none → s.failed = false → s.pending = [] → s.held = some .init →
      scriptRead s.config.script s.spc = some w → decode (.sw w) = some (.swCmd b) →
      s.responses = tr1 :: tr2 :: rest → tr1.getLsbD 0 = false → tr2.getLsbD 0 = false →
      runFor 4 s =
        .next { s with
          busMode := .command, spc := s.spc + 1, responses := rest
          issued := s.issued ++ [0x300000000, (0x5 : BitVec 4) ++ (0 : BitVec 24) ++ b]
          answered := s.answered ++ [tr1, tr2] })

/-- DATA b: its first block step issues the select with the transfer pending; and from a walk that stands at it, with two
responses of FAIL = 0, the four block steps issue SELECT_DATA and TRANSFER(b), set BUSMODE to DATA and move SPC on (in the
last of them by assumption 4); nothing else changes. -/
def Obligations.DataSendsData : Prop :=
  (∀ (s : State) (b : Byte), s.outstanding = none →
    exec (.swData b) s =
      .next { s with
        outstanding := some .selectData, pending := [.transfer b]
        issued := s.issued ++ [0x400000000] }) ∧
  (∀ (s : State) (w : SWWord) (b : Byte) (tr1 tr2 : TRWord) (rest : List TRWord),
    s.busy = true → s.outstanding = none → s.failed = false → s.pending = [] → s.held = some .init →
      scriptRead s.config.script s.spc = some w → decode (.sw w) = some (.swData b) →
      s.responses = tr1 :: tr2 :: rest → tr1.getLsbD 0 = false → tr2.getLsbD 0 = false →
      runFor 4 s =
        .next { s with
          busMode := .data, spc := s.spc + 1, responses := rest
          issued := s.issued ++ [0x400000000, (0x5 : BitVec 4) ++ (0 : BitVec 24) ++ b]
          answered := s.answered ++ [tr1, tr2] })

/-- DELAY ms: one SLEEP with MS unchanged, 0 too; and from a walk that stands at it, with a response of FAIL = 0, SPC moves
on (with that response by assumption 4) and nothing else changes, BUSMODE neither. -/
def Obligations.DelaySleeps : Prop :=
  (∀ (s : State) (ms : BitVec 32), s.outstanding = none →
    exec (.swDelay ms) s =
      .next { s with
        outstanding := some (.sleep ms), pending := []
        issued := s.issued ++ [(0x6 : BitVec 4) ++ ms] }) ∧
  (∀ (s : State) (w : SWWord) (ms : BitVec 32) (tr : TRWord) (rest : List TRWord),
    s.busy = true → s.outstanding = none → s.failed = false → s.pending = [] → s.held = some .init →
      scriptRead s.config.script s.spc = some w → decode (.sw w) = some (.swDelay ms) →
      s.responses = tr :: rest → tr.getLsbD 0 = false →
      runFor 2 s =
        .next { s with
          spc := s.spc + 1, responses := rest
          issued := s.issued ++ [(0x6 : BitVec 4) ++ ms]
          answered := s.answered ++ [tr] })

/-- END returns from the walk with SPC where it is; STATE is READY and INITIALIZE is answered OK (that the return and the
answer are one block step is the model's reading, assumption 17). -/
def Obligations.EndCompletesInitialize : Prop :=
  ∀ s : State,
    exec .swEnd s =
      .next { s with
        lifecycle := .ready, lastErr := .ok
        busy := false, held := none, pending := [], burst := none, outstanding := none, failed := false
        replies := s.replies ++ [0x00000300] }

/-! ## The transport operations -/

/-- Each transport operation, while none is outstanding, is issued with exactly its word, and nothing else changes: none is
elided, whatever BUSMODE holds. -/
def Obligations.TransportOperationsIssue : Prop :=
  ∀ (s : State) (b : Byte) (ms : BitVec 32), s.outstanding = none →
    exec .toAssertReset s =
      .next { s with outstanding := some .assertReset, issued := s.issued ++ [0x100000000] } ∧
    exec .toReleaseReset s =
      .next { s with outstanding := some .releaseReset, issued := s.issued ++ [0x200000000] } ∧
    exec .toSelectCmd s =
      .next { s with outstanding := some .selectCmd, issued := s.issued ++ [0x300000000] } ∧
    exec .toSelectData s =
      .next { s with outstanding := some .selectData, issued := s.issued ++ [0x400000000] } ∧
    exec (.toTransfer b) s =
      .next { s with
        outstanding := some (.transfer b)
        issued := s.issued ++ [(0x5 : BitVec 4) ++ (0 : BitVec 24) ++ b] } ∧
    exec (.toSleep ms) s =
      .next { s with
        outstanding := some (.sleep ms), issued := s.issued ++ [(0x6 : BitVec 4) ++ ms] }

/-- Each transport operation, once it is outstanding and its response has FAIL = 0: a select sets its BUSMODE, every other
operation leaves BUSMODE; SPC moves on exactly at the end of a script step (in this block step by assumption 4); nothing
else changes, whatever the other bits of the response are. -/
def Obligations.TransportOperationsSucceed : Prop :=
  ∀ (s : State) (op : TransportOp) (tr : TRWord) (rest : List TRWord),
    s.outstanding = some op → s.responses = tr :: rest → tr.getLsbD 0 = false →
      exec op.instr s =
        .next { s with
          outstanding := none, responses := rest, answered := s.answered ++ [tr]
          busMode := if op = .selectCmd then .command else if op = .selectData then .data else s.busMode
          spc := if s.pending = [] ∧ s.held = some .init then s.spc + 1 else s.spc }

/-- Each transport operation, once it is outstanding and its response has FAIL = 1: TransportFailure is raised, a failed
select leaves BUSMODE NONE, SPC stays, and nothing else changes. (That STATE, BUSY and LAST_ERR are written only by the
entry, in the next block step, is the model's reading, assumption 6.) -/
def Obligations.TransportOperationsFail : Prop :=
  ∀ (s : State) (op : TransportOp) (tr : TRWord) (rest : List TRWord),
    s.outstanding = some op → s.responses = tr :: rest → tr.getLsbD 0 = true →
      exec op.instr s =
        .next { s with
          outstanding := none, responses := rest, answered := s.answered ++ [tr], failed := true
          busMode := if op = .selectCmd ∨ op = .selectData then .none else s.busMode }

/-- A raised TransportFailure is entered in the next block step (the model's reading, assumption 6), in whatever body it was
raised: STATE is FAULTED, the response is TRANSPORT_FAILURE, and what is still pending is dropped; nothing else changes. -/
def Obligations.TransportFailureEntry : Prop :=
  ∀ s : State, s.busy = true → s.outstanding = none → s.failed = true →
    step s =
      .next { s with
        lifecycle := .faulted, lastErr := .transportFailure
        busy := false, held := none, pending := [], burst := none, outstanding := none, failed := false
        replies := s.replies ++ [0x00000501] }

/-- R262: with an operation outstanding and a transport that never answers, every run of the block is where it was, with
BUSY = 1, and has not ended. -/
def Obligations.HungTransportWaitsForEver : Prop :=
  ∀ (s : State) (op : TransportOp) (n : Nat),
    s.busy = true → s.outstanding = some op → s.responses = [] →
      runFor n s = .next s ∧ s.busy = true ∧ runEnded s = false

/-! ## Invariants that every step keeps -/

/-- The construction of a legal configuration is consistent, and its trace is in step, framed and agrees with BUSMODE. -/
def Obligations.ConstructionIsConsistent : Prop :=
  ∀ c : Config, c.wellFormed = true →
    Consistent (State.construct c) ∧ TraceInStep (State.construct c) ∧ PendingFramed (State.construct c) ∧
      TransfersFollowSelects (State.construct c) ∧
      (State.construct c).busMode = modeOfTrace ((State.construct c).issued.zip (State.construct c).answered)

/-- Every block step keeps a consistent state consistent. -/
def Obligations.ConsistentKept : Prop :=
  ∀ s t : State, Consistent s → step s = .next t → Consistent t

/-- From a consistent state the block never stops: the fault arms of the script fetch are unreachable (R136). And what it does
is one of the four kinds of block step (R58) or a wait for the host or the transport: the acceptance of a request; the issue
of one operation, which writes no register; the receipt of one response, which writes no register but BUSMODE and SPC; the
delivery of one response word, which writes no register but STATE, BUSY and LAST_ERR. (That SPC moves with a receipt, that
START is passed in an acceptance, and that the entry of a failure and END's return fall in a delivery are the model's readings,
assumptions 3, 4, 6 and 17.) -/
def Obligations.ConsistentNeverStops : Prop :=
  ∀ s : State, Consistent s → ∃ t, step s = .next t ∧
    ((t = s ∧ ((s.busy = false ∧ s.requests = []) ∨ (s.outstanding ≠ none ∧ s.responses = []))) ∨
      (s.busy = false ∧ ∃ rq, s.requests = rq :: t.requests ∧ t.issued = s.issued ∧ t.answered = s.answered ∧
        t.responses = s.responses) ∨
      (s.busy = true ∧ s.outstanding = none ∧ s.failed = false ∧ ∃ op,
        t = { s with
          outstanding := some op, issued := s.issued ++ [op.word], pending := t.pending, burst := t.burst }) ∨
      (s.busy = true ∧ s.outstanding ≠ none ∧ ∃ tr, s.responses = tr :: t.responses ∧
        t = { s with
          outstanding := none, responses := t.responses, answered := s.answered ++ [tr], failed := trFail tr
          busMode := t.busMode, spc := t.spc }) ∨
      (s.busy = true ∧ s.outstanding = none ∧ ∃ rs,
        t = { s with
          lifecycle := t.lifecycle, lastErr := t.lastErr, busy := false
          held := none, pending := [], burst := none, failed := false
          replies := s.replies ++ [rs] }))

/-- In a well-formed script every word up to the end index is a legal step, START exactly at index 0 and END exactly at the
end index; and whatever step the walk stands at is one of these, and no START (no second one by R136; that the first is
passed in INITIALIZE's accepting step, so that no walk stands at it, is the model's reading, assumption 3). -/
def Obligations.WalkMeetsOnlyLegalSteps : Prop :=
  (∀ m : Memory, wellFormedScript m = true →
    ∀ i : Nat, i ≤ endIndex m →
      ∃ w st, m[i]? = some w ∧ decodeSW w = some st ∧ (st = .start ↔ i = 0) ∧ (st = .endMark ↔ i = endIndex m)) ∧
  (∀ s : State, Consistent s → s.busy = true → s.held = some .init →
    ∃ w st, scriptRead s.config.script s.spc = some w ∧ decodeSW w = some st ∧ st ≠ .start ∧
      (st = .endMark ↔ s.spc.toNat = endIndex s.config.script))

/-- R33: no instruction and no block step writes the configuration, and construction latches it. -/
def Obligations.ConfigurationNeverChanges : Prop :=
  (∀ c : Config, (State.construct c).config = c) ∧
  (∀ (i : Instr) (s t : State), exec i s = .next t → t.config = s.config) ∧
  (∀ s t : State, step s = .next t → t.config = s.config)

/-- From FAULTED or SHUTDOWN, with nothing in progress, every run of the block stays there and issues nothing. -/
def Obligations.TerminalStatesAreLeftByNothing : Prop :=
  ∀ (n : Nat) (s t : State),
    s.busy = false → s.lifecycle = .faulted ∨ s.lifecycle = .shutdown → runFor n s = .next t →
      t.lifecycle = s.lifecycle ∧ t.busy = false ∧ t.issued = s.issued ∧ t.owned = s.owned

/-- R23: the changes of STATE, and READY only by the completion of the script. -/
def Obligations.LifecycleTransitions : Prop :=
  ∀ s t : State, Consistent s → step s = .next t →
    (t.lifecycle = s.lifecycle ∨
      (s.lifecycle = .uninit ∧ t.lifecycle = .resetting) ∨
      (s.lifecycle = .resetting ∧ t.lifecycle = .scriptRunning) ∨
      (s.lifecycle = .scriptRunning ∧ t.lifecycle = .ready) ∨
      (s.lifecycle = .ready ∧ t.lifecycle = .shutdown) ∨
      ((s.lifecycle = .resetting ∨ s.lifecycle = .scriptRunning ∨ s.lifecycle = .ready) ∧
        t.lifecycle = .faulted)) ∧
    (s.lifecycle ≠ .ready → t.lifecycle = .ready →
      s.held = some .init ∧ s.spc.toNat = endIndex s.config.script ∧ s.pending = [] ∧ s.outstanding = none ∧
        s.failed = false)

/-- The trace stays in step with the sequencer, and an operation is issued only while none is outstanding and none has
failed. -/
def Obligations.OneOperationAtATime : Prop :=
  ∀ s t : State, (s.busy = false → s.outstanding = none) → TraceInStep s → step s = .next t →
    TraceInStep t ∧
      (t.issued ≠ s.issued →
        s.outstanding = none ∧ s.failed = false ∧ ∃ op, t.outstanding = some op ∧ t.issued = s.issued ++ [op.word])

/-- BUSMODE is a function of the answered trace: the mode of the last select that was answered, NONE if that one failed or
none was. (R46 is read over answered operations: while a select is outstanding BUSMODE is still the mode before it, as R100
writes it.) -/
def Obligations.BusModeMirrorsTrace : Prop :=
  ∀ s t : State, (s.busy = false → s.outstanding = none) → TraceInStep s →
    s.busMode = modeOfTrace (s.issued.zip s.answered) → step s = .next t →
      t.busMode = modeOfTrace (t.issued.zip t.answered)

/-- Every TRANSFER of the trace stands directly after a select whose response had FAIL = 0: every block step keeps this. -/
def Obligations.TransfersFollowSelectsKept : Prop :=
  ∀ s t : State, (s.busy = false → s.outstanding = none) → TraceInStep s → PendingFramed s →
    TransfersFollowSelects s → step s = .next t → PendingFramed t ∧ TransfersFollowSelects t

/-- R92: the block never issues a word of another KIND, nor a nonzero ARG[31:8] under the kinds 1 to 5. -/
def Obligations.IssuedWordsAreLegal : Prop :=
  ∀ s t : State, (∀ w ∈ s.issued, mayIssue w = true) → step s = .next t → ∀ w ∈ t.issued, mayIssue w = true

/-- R88: RS[31:11] is zero, ERR is 0 to 5 and STATE is 0 to 5 in every response. -/
def Obligations.ResponseWordsAreLegal : Prop :=
  ∀ s t : State,
    (∀ w ∈ s.replies, w.extractLsb' 11 21 = 0 ∧ (w.extractLsb' 0 8).toNat ≤ 5 ∧ (w.extractLsb' 8 3).toNat ≤ 5) →
      step s = .next t →
        ∀ w ∈ t.replies, w.extractLsb' 11 21 = 0 ∧ (w.extractLsb' 0 8).toNat ≤ 5 ∧ (w.extractLsb' 8 3).toNat ≤ 5

/-- R28: LAST_ERR is written in exactly the block steps that deliver a response, with its ERR (and STATE stands in the
response as it is after the step); before the first response it is 0. -/
def Obligations.LastErrMirrorsResponses : Prop :=
  (∀ c : Config, (State.construct c).replies = [] ∧ errCode (State.construct c).lastErr = 0) ∧
  (∀ s t : State, step s = .next t →
    (t.replies = s.replies ∧ t.lastErr = s.lastErr) ∨
      ∃ rs, t.replies = s.replies ++ [rs] ∧ rs.extractLsb' 0 8 = errCode t.lastErr ∧
        rs.extractLsb' 8 3 = lifecycleCode t.lifecycle)

/-- Every block step keeps the balance of requests and responses: a request leaves the offer exactly when it is answered at
once or its body begins, and BUSY falls exactly with its one response. -/
def Obligations.OneResponsePerRequest : Prop :=
  ∀ s t : State, step s = .next t →
    t.replies.length + t.requests.length + (if t.busy then 1 else 0) =
        s.replies.length + s.requests.length + (if s.busy then 1 else 0) ∧
      (s.busy = true → (t.busy = false ↔ t.replies ≠ s.replies)) ∧
      (t.requests ≠ s.requests → s.busy = false ∧ ∃ rq, s.requests = rq :: t.requests)

/-- R26: OWNED is 1 from construction, the acceptance of SHUTDOWN in READY clears it, and no other block step writes it. -/
def Obligations.OwnershipReleasedOnlyByShutdown : Prop :=
  (∀ c : Config, (State.construct c).owned = true) ∧
  (∀ s t : State, step s = .next t →
    busOwned t = busOwned s ∨
      (busOwned t = false ∧ s.busy = false ∧ s.lifecycle = .ready ∧ t.lifecycle = .shutdown ∧
        ∃ rest, s.requests = 0x00000000000000000000000000000005 :: rest)) ∧
  (∀ (s t : State) (rest : List RQWord),
    s.busy = false → s.lifecycle = .ready → s.requests = 0x00000000000000000000000000000005 :: rest →
      step s = .next t → busOwned t = false)

/-- SPC is written only by INITIALIZE's acceptance (to 0 and, START being passed there, to 1: the model's reading, assumptions
3 and 5) and by the receipt of a response with FAIL = 0 in the walk (to SPC + 1: the model's reading, assumption 4), and
SPC + 1 does not wrap. -/
def Obligations.SpcOnlyRestartsOrAdvances : Prop :=
  ∀ s t : State, Consistent s → step s = .next t →
    t.spc = s.spc ∨
      (t.spc = 1 ∧ s.busy = false ∧ s.lifecycle = .resetting ∧ t.lifecycle = .scriptRunning ∧ t.held = some .init) ∨
      (t.spc.toNat = s.spc.toNat + 1 ∧ s.busy = true ∧ s.held = some .init ∧
        ∃ tr, trFail tr = false ∧ t.answered = s.answered ++ [tr])

/-! ## What does not matter -/

/-- R94: two responses that agree in bit 0 lead to states that differ only in the record of the response itself. -/
def Obligations.OnlyFailBitIsRead : Prop :=
  ∀ (s t : State) (tr tr' : TRWord) (rest : List TRWord),
    tr.getLsbD 0 = tr'.getLsbD 0 → s.outstanding ≠ none → s.busy = true →
      step { s with responses := tr :: rest } = .next t →
        ∃ t', step { s with responses := tr' :: rest } = .next t' ∧
          t = { t' with answered := s.answered ++ [tr] } ∧ t'.answered = s.answered ++ [tr']

/-- R11: RGB_ORDER has no effect on any operation of the block: the other value leads to the same outcome, but for the
flag itself. -/
def Obligations.RgbOrderHasNoEffect : Prop :=
  ∀ (s t : State) (b : Bool), step s = .next t →
    step { s with config := { s.config with rgbOrder := b } } =
      .next { t with config := { t.config with rgbOrder := b } }

/-- R125: the words after the end index, the first after word 0 of TAG 0xF, have no effect: with any others, and any number of
them, every block step is the same, whether or not the script is well formed. -/
def Obligations.StepsAfterEndHaveNoEffect : Prop :=
  ∀ (s t : State) (after : List SWWord), Consistent s → endIndex s.config.script < s.config.script.length →
    step s = .next t →
      step { s with config :=
          { s.config with script := s.config.script.take (endIndex s.config.script + 1) ++ after } } =
        .next { t with config :=
          { t.config with script := t.config.script.take (endIndex t.config.script + 1) ++ after } }

/-! ## Sequences and whole requests -/

/-- The well-formedness check, exactly: word 0 is START, and there is an end index, the least index from 1 on of TAG 0xF,
whose word is exactly END and before which every word from index 1 on is CMD, DATA or DELAY. -/
def Obligations.WellFormedScriptExactly : Prop :=
  ∀ m : Memory,
    wellFormedScript m = true ↔
      2 ≤ m.length ∧ m[0]? = some 0x100000000 ∧
        ∃ e, 1 ≤ e ∧ m[e]? = some 0xF00000000 ∧ e = endIndex m ∧
          ∀ i, 1 ≤ i → i < e → ∃ w, m[i]? = some w ∧ w.extractLsb' 32 4 ≠ 0xF ∧
            ((∃ b, decodeSW w = some (.cmd b)) ∨ (∃ b, decodeSW w = some (.data b)) ∨
              ∃ ms, decodeSW w = some (.delay ms))

/-- R152 and R154: setWindow is exactly 10 Framer calls (one command and four data bytes for the columns, the same for the
rows), 20 operations and 10 bytes; its data bytes are the 16-bit big-endian pairs of the calibrated coordinates, which are the
sums with the offsets modulo 2^16. -/
def Obligations.SetWindowSendsTenBytes : Prop :=
  ∀ (c : Config) (w : Window),
    setWindow c w =
      [.selectCmd, .transfer c.opCaset,
        .selectData, .transfer ((calibratedColumn c w.x0).extractLsb' 8 8),
        .selectData, .transfer ((calibratedColumn c w.x0).extractLsb' 0 8),
        .selectData, .transfer ((calibratedColumn c w.x1).extractLsb' 8 8),
        .selectData, .transfer ((calibratedColumn c w.x1).extractLsb' 0 8),
        .selectCmd, .transfer c.opRaset,
        .selectData, .transfer ((calibratedRow c w.y0).extractLsb' 8 8),
        .selectData, .transfer ((calibratedRow c w.y0).extractLsb' 0 8),
        .selectData, .transfer ((calibratedRow c w.y1).extractLsb' 8 8),
        .selectData, .transfer ((calibratedRow c w.y1).extractLsb' 0 8)] ∧
    (setWindow c w).length = 20 ∧ (bytesOf (setWindow c w)).length = 10 ∧
    ∀ v : Half,
      (calibratedColumn c v).toNat = (v.toNat + c.colOffset.toNat) % 65536 ∧
        (calibratedRow c v).toNat = (v.toNat + c.rowOffset.toNat) % 65536

/-- R156: the pixels of a burst in row-major order, by the counters the block steps on and by the formula of the `k`-th
pixel: the first is `(x0, y0)`, each next pixel is the formula's, and none comes after the last. -/
def Obligations.PixelsAreRowMajor : Prop :=
  ∀ w : Window, w.x0.toNat ≤ w.x1.toNat → w.y0.toNat ≤ w.y1.toNat →
    pixelAt w 0 = { x := w.x0, y := w.y0, k := 0 } ∧
    (∀ k, k + 1 < windowWidth w * windowHeight w → nextPixel w (pixelAt w k) = some (pixelAt w (k + 1))) ∧
    (∀ k, k + 1 = windowWidth w * windowHeight w → nextPixel w (pixelAt w k) = none) ∧
    (∀ k, k < windowWidth w * windowHeight w →
      (pixelAt w k).x.toNat = w.x0.toNat + k % windowWidth w ∧
        (pixelAt w k).y.toNat = w.y0.toNat + k / windowWidth w)

/-- R159: writePixels, over any window and for any color source, is exactly `2*w*h + 12` Framer calls, each a select and the
transfer of one byte: the column command and its four data bytes, the row command and its four data bytes, the memory-write
command, two data bytes per pixel in the order of the pixels, high byte first, and the no-op command; that is `4*w*h + 24`
operations, of which `2*w*h + 12` are TRANSFERs. -/
def Obligations.WritePixelsCost : Prop :=
  ∀ (c : Config) (w : Window) (src : Nat → Half → Half → Half),
    let calls : List (TransportOp × Byte) :=
      [(.selectCmd, c.opCaset),
        (.selectData, (calibratedColumn c w.x0).extractLsb' 8 8),
        (.selectData, (calibratedColumn c w.x0).extractLsb' 0 8),
        (.selectData, (calibratedColumn c w.x1).extractLsb' 8 8),
        (.selectData, (calibratedColumn c w.x1).extractLsb' 0 8),
        (.selectCmd, c.opRaset),
        (.selectData, (calibratedRow c w.y0).extractLsb' 8 8),
        (.selectData, (calibratedRow c w.y0).extractLsb' 0 8),
        (.selectData, (calibratedRow c w.y1).extractLsb' 8 8),
        (.selectData, (calibratedRow c w.y1).extractLsb' 0 8),
        (.selectCmd, c.opRamwr)] ++
        (List.range (windowWidth w * windowHeight w)).flatMap (fun k =>
          [(.selectData, (src k (pixelAt w k).x (pixelAt w k).y).extractLsb' 8 8),
            (.selectData, (src k (pixelAt w k).x (pixelAt w k).y).extractLsb' 0 8)]) ++
        [(.selectCmd, c.opNop)]
    writePixels c w src = calls.flatMap (fun call => [call.1, .transfer call.2]) ∧
      calls.length = 2 * (windowWidth w * windowHeight w) + 12 ∧
      (writePixels c w src).length = 4 * (windowWidth w * windowHeight w) + 24 ∧
      (bytesOf (writePixels c w src)).length = 2 * (windowWidth w * windowHeight w) + 12 ∧
      bytesOf (writePixels c w src) = calls.map (fun call => call.2)

/-- The operation sequence of each request with a body, written out, and its cost: RESET 4 operations and no byte; INITIALIZE,
for the steps between START and the end index in order, a select and a transfer per CMD and DATA step and a SLEEP per DELAY
step; SET_WINDOW_COLOR the sequence of writePixels with the one color; SET_PIXEL 28 operations and 14 bytes, or 26 and 13
without the trailing no-op. -/
def Obligations.RequestCosts : Prop :=
  (∀ c : Config,
    bodyOps c .reset =
      [.assertReset, .sleep (c.tRstAssertMs.zeroExtend 32), .releaseReset, .sleep (c.tRstReleaseMs.zeroExtend 32)] ∧
    (bodyOps c .reset).length = 4 ∧ bytesOf (bodyOps c .reset) = []) ∧
  (∀ (c : Config) (w : Window) (color : Half),
    bodyOps c (.setWindowColor w color) = writePixels c w (fun _ _ _ => color)) ∧
  (∀ (c : Config) (x y color : Half),
    bodyOps c (.setPixel x y color) =
        setWindow c { x0 := x, y0 := y, x1 := x + 1, y1 := y + 1 } ++
          [.selectCmd, .transfer c.opRamwr, .selectData, .transfer (color.extractLsb' 8 8),
            .selectData, .transfer (color.extractLsb' 0 8)] ++
          (if c.setPixelTrailingNop = true then [.selectCmd, .transfer c.opNop] else []) ∧
      (bodyOps c (.setPixel x y color)).length = (if c.setPixelTrailingNop = true then 28 else 26) ∧
      (bytesOf (bodyOps c (.setPixel x y color))).length = (if c.setPixelTrailingNop = true then 14 else 13)) ∧
  (∀ c : Config,
    let steps := ((c.script.take (endIndex c.script)).drop 1).filterMap decodeSW
    bodyOps c .init =
        steps.flatMap (fun st => match st with
          | .cmd b => [.selectCmd, .transfer b] | .data b => [.selectData, .transfer b]
          | .delay ms => [.sleep ms] | .start => [] | .endMark => []) ∧
      (bodyOps c .init).length =
        2 * (steps.countP (fun st => match st with
          | .cmd _ => true | .data _ => true | .delay _ => false | .start => false | .endMark => false)) +
        steps.countP (fun st => match st with
          | .delay _ => true | .cmd _ => false | .data _ => false | .start => false | .endMark => false) ∧
      bytesOf (bodyOps c .init) =
        steps.filterMap (fun st => match st with
          | .cmd b => some b | .data b => some b | .delay _ => none | .start => none | .endMark => none))

/-- A request whose checks pass, before a transport that answers each of its operations with FAIL = 0, ends after a bounded
number of block steps: it has issued exactly its operation sequence, in order, and is answered OK. Nothing else of the state
changes. (The number of block steps rests on assumption 3.) -/
def Obligations.SuccessfulRequestRuns : Prop :=
  ∀ (s : State) (r : Request) (others : List RQWord) (oks rest : List TRWord),
    s.busy = false → s.config.wellFormed = true → r ≠ .shutdown → s.requests = r.word :: others →
      checkRequest r s = none → s.responses = oks ++ rest → allOk oks = true →
      oks.length = (bodyOps s.config r).length →
      runFor (2 * oks.length + 2) s =
        .next { s with
          lifecycle := successLifecycle r s.lifecycle
          busy := false
          busMode := modeAfterOps (bodyOps s.config r) s.busMode
          lastErr := .ok
          spc := successSpc s.config r s.spc
          held := none, pending := [], burst := none, outstanding := none, failed := false
          requests := others, responses := rest
          issued := s.issued ++ (bodyOps s.config r).map TransportOp.word
          answered := s.answered ++ oks
          replies := s.replies ++ [rsWord (successLifecycle r s.lifecycle) .ok] }

/-- A request whose checks pass, before a transport that answers its first operations with FAIL = 0 and the next with
FAIL = 1, ends after a bounded number of block steps: it has issued exactly its sequence up to and including the failed
operation, STATE is FAULTED, and it is answered TRANSPORT_FAILURE; INITIALIZE leaves SPC at the failing step. (The number of
block steps rests on assumptions 3 and 6.) -/
def Obligations.FailedRequestRuns : Prop :=
  ∀ (s : State) (r : Request) (others : List RQWord) (oks rest : List TRWord) (bad : TRWord),
    s.busy = false → s.config.wellFormed = true → r ≠ .shutdown → s.requests = r.word :: others →
      checkRequest r s = none → s.responses = oks ++ bad :: rest → allOk oks = true → trFail bad = true →
      oks.length < (bodyOps s.config r).length →
      ∃ t, runFor (2 * oks.length + 4) s = .next t ∧
        t.lifecycle = .faulted ∧ t.busy = false ∧ t.lastErr = .transportFailure ∧ HiddenIdle t ∧
        t.replies = s.replies ++ [0x00000501] ∧
        t.issued = s.issued ++ ((bodyOps s.config r).take (oks.length + 1)).map TransportOp.word ∧
        t.answered = s.answered ++ oks ++ [bad] ∧ t.responses = rest ∧ t.requests = others ∧
        t.owned = s.owned ∧ t.config = s.config ∧
        (r ≠ .init → t.spc = s.spc) ∧
        (r = .init → ∃ i, (walkIndices s.config.script)[oks.length]? = some i ∧ t.spc.toNat = i)

/-- A request whose checks pass, before a transport that answers fewer operations than its sequence has, never ends: after
any number of block steps no response has been delivered, and BUSY is 1 from the first on. -/
def Obligations.UnansweredRequestNeverEnds : Prop :=
  ∀ (s : State) (r : Request) (others : List RQWord) (n : Nat),
    s.busy = false → s.config.wellFormed = true → r ≠ .shutdown → s.requests = r.word :: others →
      checkRequest r s = none → allOk s.responses = true →
      s.responses.length < (bodyOps s.config r).length →
      ∃ t, runFor n s = .next t ∧ t.replies = s.replies ∧ (1 ≤ n → t.busy = true)

/-- The boot order reaches READY: from the construction of any legal configuration with a well-formed script, RESET and
INITIALIZE offered, and a transport that answers every operation with FAIL = 0. (The number of block steps rests on
assumption 3.) -/
def Obligations.BootOrderReachesReady : Prop :=
  ∀ (c : Config) (oks : List TRWord),
    c.wellFormed = true → wellFormedScript c.script = true → allOk oks = true →
      oks.length = 4 + (walkOps c.script).length →
      ∃ t, runFor (2 * oks.length + 4)
          { State.construct c with
            requests := [0x00000000000000000000000000000001, 0x00000000000000000000000000000002]
            responses := oks } = .next t ∧
        t.lifecycle = .ready ∧ t.busy = false ∧ t.replies = [0x00000100, 0x00000300] ∧
        t.issued = (resetSequence c ++ walkOps c.script).map TransportOp.word ∧
        t.spc.toNat = endIndex c.script ∧ runEnded t = true

/-- CLEAR is the fill of the whole panel, and its window is valid on every legal configuration; REG's walk is one command
byte and its data bytes. -/
def Obligations.PseudoInstructionsExpand : Prop :=
  (∀ (c : Config) (color : Half), c.wellFormed = true →
    (expandClear c color).word =
        (0 : BitVec 32) ++ (c.panelH - 1) ++ (c.panelW - 1) ++ (0 : Half) ++ (0 : Half) ++ color ++
          (0x0003 : BitVec 16) ∧
      validWindow c { x0 := 0, y0 := 0, x1 := c.panelW - 1, y1 := c.panelH - 1 } = true) ∧
  (∀ (op : Byte) (bytes : List Byte),
    (expandReg op bytes).flatMap stepOps =
      [.selectCmd, .transfer op] ++ bytes.flatMap (fun b => [.selectData, .transfer b]))
end

