-- ==== Sys2Proof/Laws/Encoding.lean ====
section
/-! SUPPORT. Words as numbers: a concatenation and a bit field in terms of `toNat`, and the number each encoded word is. With
these, a fact about the fields of a word is linear arithmetic. -/

namespace Sys2Proof

/-- A concatenation as a number. -/
theorem toNat_append_add {m n : Nat} (a : BitVec m) (b : BitVec n) :
    (a ++ b).toNat = a.toNat * 2 ^ n + b.toNat := by
  rw [BitVec.toNat_append, ← Nat.shiftLeft_add_eq_or_of_lt b.isLt, Nat.shiftLeft_eq]

/-- A bit field as a number. -/
theorem toNat_field {m : Nat} (a : BitVec m) (i n : Nat) :
    (a.extractLsb' i n).toNat = a.toNat / 2 ^ i % 2 ^ n := by
  rw [BitVec.extractLsb'_toNat, Nat.shiftRight_eq_div_pow]

/-- A bit field is the vector its number says. -/
theorem field_eq {m i n : Nat} {v : BitVec m} {b : BitVec n} (h : v.toNat / 2 ^ i % 2 ^ n = b.toNat) :
    v.extractLsb' i n = b :=
  BitVec.eq_of_toNat_eq (by rw [toNat_field, h])

/-- The number of SET_WINDOW_COLOR's word (R82). -/
theorem toNat_word_setWindowColor (w : Window) (color : Half) :
    (Request.word (.setWindowColor w color)).toNat =
      w.y1.toNat * 2 ^ 80 + w.x1.toNat * 2 ^ 64 + w.y0.toNat * 2 ^ 48 + w.x0.toNat * 2 ^ 32 +
        color.toNat * 2 ^ 16 + 3 := by
  simp only [Request.word]
  repeat rw [toNat_append_add]
  simp; omega

/-- The number of SET_PIXEL's word (R82). -/
theorem toNat_word_setPixel (x y color : Half) :
    (Request.word (.setPixel x y color)).toNat =
      y.toNat * 2 ^ 48 + x.toNat * 2 ^ 32 + color.toNat * 2 ^ 16 + 4 := by
  simp only [Request.word]
  repeat rw [toNat_append_add]
  simp; omega

/-- The number of a word of a 4-bit tag and a byte (R77, R91). -/
theorem toNat_byteWord (tag : BitVec 4) (b : Byte) :
    (tag ++ (0 : BitVec 24) ++ b).toNat = tag.toNat * 2 ^ 32 + b.toNat := by
  repeat rw [toNat_append_add]
  simp; omega

/-- The number of a word of a 4-bit tag and a 32-bit operand (R77, R91). -/
theorem toNat_longWord (tag : BitVec 4) (ms : BitVec 32) : (tag ++ ms).toNat = tag.toNat * 2 ^ 32 + ms.toNat :=
  toNat_append_add tag ms

end Sys2Proof
end

