-- ==== Sys2Proof/Laws/State.lean ====
section
/-! SUPPORT. One lemma per field per named update of the state: what each operation leaves in each field. -/

namespace Sys2Proof.Machine

/-! ## finish (R182) -/

@[simp] theorem finish_lifecycle (e : ErrCode) (s : State) : (finish e s).lifecycle = s.lifecycle := rfl
@[simp] theorem finish_busy (e : ErrCode) (s : State) : (finish e s).busy = false := rfl
@[simp] theorem finish_busMode (e : ErrCode) (s : State) : (finish e s).busMode = s.busMode := rfl
@[simp] theorem finish_owned (e : ErrCode) (s : State) : (finish e s).owned = s.owned := rfl
@[simp] theorem finish_lastErr (e : ErrCode) (s : State) : (finish e s).lastErr = e := rfl
@[simp] theorem finish_spc (e : ErrCode) (s : State) : (finish e s).spc = s.spc := rfl
@[simp] theorem finish_config (e : ErrCode) (s : State) : (finish e s).config = s.config := rfl
@[simp] theorem finish_held (e : ErrCode) (s : State) : (finish e s).held = none := rfl
@[simp] theorem finish_pending (e : ErrCode) (s : State) : (finish e s).pending = [] := rfl
@[simp] theorem finish_burst (e : ErrCode) (s : State) : (finish e s).burst = none := rfl
@[simp] theorem finish_outstanding (e : ErrCode) (s : State) : (finish e s).outstanding = none := rfl
@[simp] theorem finish_failed (e : ErrCode) (s : State) : (finish e s).failed = false := rfl
@[simp] theorem finish_requests (e : ErrCode) (s : State) : (finish e s).requests = s.requests := rfl
@[simp] theorem finish_responses (e : ErrCode) (s : State) : (finish e s).responses = s.responses := rfl
@[simp] theorem finish_issued (e : ErrCode) (s : State) : (finish e s).issued = s.issued := rfl
@[simp] theorem finish_answered (e : ErrCode) (s : State) : (finish e s).answered = s.answered := rfl
@[simp] theorem finish_replies (e : ErrCode) (s : State) : (finish e s).replies = s.replies ++ [rsWord s.lifecycle e] := rfl

/-! ## raiseError (R222) -/

@[simp] theorem raiseError_lifecycle (e : ErrCode) (s : State) : (raiseError e s).lifecycle = lifecycleAfterError e s.lifecycle := rfl
@[simp] theorem raiseError_busy (e : ErrCode) (s : State) : (raiseError e s).busy = false := rfl
@[simp] theorem raiseError_busMode (e : ErrCode) (s : State) : (raiseError e s).busMode = s.busMode := rfl
@[simp] theorem raiseError_owned (e : ErrCode) (s : State) : (raiseError e s).owned = s.owned := rfl
@[simp] theorem raiseError_lastErr (e : ErrCode) (s : State) : (raiseError e s).lastErr = e := rfl
@[simp] theorem raiseError_spc (e : ErrCode) (s : State) : (raiseError e s).spc = s.spc := rfl
@[simp] theorem raiseError_config (e : ErrCode) (s : State) : (raiseError e s).config = s.config := rfl
@[simp] theorem raiseError_held (e : ErrCode) (s : State) : (raiseError e s).held = none := rfl
@[simp] theorem raiseError_pending (e : ErrCode) (s : State) : (raiseError e s).pending = [] := rfl
@[simp] theorem raiseError_burst (e : ErrCode) (s : State) : (raiseError e s).burst = none := rfl
@[simp] theorem raiseError_outstanding (e : ErrCode) (s : State) : (raiseError e s).outstanding = none := rfl
@[simp] theorem raiseError_failed (e : ErrCode) (s : State) : (raiseError e s).failed = false := rfl
@[simp] theorem raiseError_requests (e : ErrCode) (s : State) : (raiseError e s).requests = s.requests := rfl
@[simp] theorem raiseError_responses (e : ErrCode) (s : State) : (raiseError e s).responses = s.responses := rfl
@[simp] theorem raiseError_issued (e : ErrCode) (s : State) : (raiseError e s).issued = s.issued := rfl
@[simp] theorem raiseError_answered (e : ErrCode) (s : State) : (raiseError e s).answered = s.answered := rfl
@[simp] theorem raiseError_replies (e : ErrCode) (s : State) : (raiseError e s).replies = s.replies ++ [rsWord (lifecycleAfterError e s.lifecycle) e] := rfl

/-! ## beginBody (R181) -/

@[simp] theorem beginBody_lifecycle (r : Request) (l : Lifecycle) (ops : List TransportOp) (b : Option PixelCounters) (s : State) : (beginBody r l ops b s).lifecycle = l := rfl
@[simp] theorem beginBody_busy (r : Request) (l : Lifecycle) (ops : List TransportOp) (b : Option PixelCounters) (s : State) : (beginBody r l ops b s).busy = true := rfl
@[simp] theorem beginBody_busMode (r : Request) (l : Lifecycle) (ops : List TransportOp) (b : Option PixelCounters) (s : State) : (beginBody r l ops b s).busMode = s.busMode := rfl
@[simp] theorem beginBody_owned (r : Request) (l : Lifecycle) (ops : List TransportOp) (b : Option PixelCounters) (s : State) : (beginBody r l ops b s).owned = s.owned := rfl
@[simp] theorem beginBody_lastErr (r : Request) (l : Lifecycle) (ops : List TransportOp) (b : Option PixelCounters) (s : State) : (beginBody r l ops b s).lastErr = s.lastErr := rfl
@[simp] theorem beginBody_spc (r : Request) (l : Lifecycle) (ops : List TransportOp) (b : Option PixelCounters) (s : State) : (beginBody r l ops b s).spc = s.spc := rfl
@[simp] theorem beginBody_config (r : Request) (l : Lifecycle) (ops : List TransportOp) (b : Option PixelCounters) (s : State) : (beginBody r l ops b s).config = s.config := rfl
@[simp] theorem beginBody_held (r : Request) (l : Lifecycle) (ops : List TransportOp) (b : Option PixelCounters) (s : State) : (beginBody r l ops b s).held = some r := rfl
@[simp] theorem beginBody_pending (r : Request) (l : Lifecycle) (ops : List TransportOp) (b : Option PixelCounters) (s : State) : (beginBody r l ops b s).pending = ops := rfl
@[simp] theorem beginBody_burst (r : Request) (l : Lifecycle) (ops : List TransportOp) (b : Option PixelCounters) (s : State) : (beginBody r l ops b s).burst = b := rfl
@[simp] theorem beginBody_outstanding (r : Request) (l : Lifecycle) (ops : List TransportOp) (b : Option PixelCounters) (s : State) : (beginBody r l ops b s).outstanding = none := rfl
@[simp] theorem beginBody_failed (r : Request) (l : Lifecycle) (ops : List TransportOp) (b : Option PixelCounters) (s : State) : (beginBody r l ops b s).failed = false := rfl
@[simp] theorem beginBody_requests (r : Request) (l : Lifecycle) (ops : List TransportOp) (b : Option PixelCounters) (s : State) : (beginBody r l ops b s).requests = s.requests := rfl
@[simp] theorem beginBody_responses (r : Request) (l : Lifecycle) (ops : List TransportOp) (b : Option PixelCounters) (s : State) : (beginBody r l ops b s).responses = s.responses := rfl
@[simp] theorem beginBody_issued (r : Request) (l : Lifecycle) (ops : List TransportOp) (b : Option PixelCounters) (s : State) : (beginBody r l ops b s).issued = s.issued := rfl
@[simp] theorem beginBody_answered (r : Request) (l : Lifecycle) (ops : List TransportOp) (b : Option PixelCounters) (s : State) : (beginBody r l ops b s).answered = s.answered := rfl
@[simp] theorem beginBody_replies (r : Request) (l : Lifecycle) (ops : List TransportOp) (b : Option PixelCounters) (s : State) : (beginBody r l ops b s).replies = s.replies := rfl

/-! ## issueOp (R100) -/

@[simp] theorem issueOp_lifecycle (op : TransportOp) (s : State) : (issueOp op s).lifecycle = s.lifecycle := rfl
@[simp] theorem issueOp_busy (op : TransportOp) (s : State) : (issueOp op s).busy = s.busy := rfl
@[simp] theorem issueOp_busMode (op : TransportOp) (s : State) : (issueOp op s).busMode = s.busMode := rfl
@[simp] theorem issueOp_owned (op : TransportOp) (s : State) : (issueOp op s).owned = s.owned := rfl
@[simp] theorem issueOp_lastErr (op : TransportOp) (s : State) : (issueOp op s).lastErr = s.lastErr := rfl
@[simp] theorem issueOp_spc (op : TransportOp) (s : State) : (issueOp op s).spc = s.spc := rfl
@[simp] theorem issueOp_config (op : TransportOp) (s : State) : (issueOp op s).config = s.config := rfl
@[simp] theorem issueOp_held (op : TransportOp) (s : State) : (issueOp op s).held = s.held := rfl
@[simp] theorem issueOp_pending (op : TransportOp) (s : State) : (issueOp op s).pending = s.pending := rfl
@[simp] theorem issueOp_burst (op : TransportOp) (s : State) : (issueOp op s).burst = s.burst := rfl
@[simp] theorem issueOp_outstanding (op : TransportOp) (s : State) : (issueOp op s).outstanding = some op := rfl
@[simp] theorem issueOp_failed (op : TransportOp) (s : State) : (issueOp op s).failed = s.failed := rfl
@[simp] theorem issueOp_requests (op : TransportOp) (s : State) : (issueOp op s).requests = s.requests := rfl
@[simp] theorem issueOp_responses (op : TransportOp) (s : State) : (issueOp op s).responses = s.responses := rfl
@[simp] theorem issueOp_issued (op : TransportOp) (s : State) : (issueOp op s).issued = s.issued ++ [op.word] := rfl
@[simp] theorem issueOp_answered (op : TransportOp) (s : State) : (issueOp op s).answered = s.answered := rfl
@[simp] theorem issueOp_replies (op : TransportOp) (s : State) : (issueOp op s).replies = s.replies := rfl

/-! ## nextScriptStep (R126) -/

@[simp] theorem nextScriptStep_lifecycle (s : State) : (nextScriptStep s).lifecycle = s.lifecycle := rfl
@[simp] theorem nextScriptStep_busy (s : State) : (nextScriptStep s).busy = s.busy := rfl
@[simp] theorem nextScriptStep_busMode (s : State) : (nextScriptStep s).busMode = s.busMode := rfl
@[simp] theorem nextScriptStep_owned (s : State) : (nextScriptStep s).owned = s.owned := rfl
@[simp] theorem nextScriptStep_lastErr (s : State) : (nextScriptStep s).lastErr = s.lastErr := rfl
@[simp] theorem nextScriptStep_spc (s : State) : (nextScriptStep s).spc = s.spc + 1 := rfl
@[simp] theorem nextScriptStep_config (s : State) : (nextScriptStep s).config = s.config := rfl
@[simp] theorem nextScriptStep_held (s : State) : (nextScriptStep s).held = s.held := rfl
@[simp] theorem nextScriptStep_pending (s : State) : (nextScriptStep s).pending = s.pending := rfl
@[simp] theorem nextScriptStep_burst (s : State) : (nextScriptStep s).burst = s.burst := rfl
@[simp] theorem nextScriptStep_outstanding (s : State) : (nextScriptStep s).outstanding = s.outstanding := rfl
@[simp] theorem nextScriptStep_failed (s : State) : (nextScriptStep s).failed = s.failed := rfl
@[simp] theorem nextScriptStep_requests (s : State) : (nextScriptStep s).requests = s.requests := rfl
@[simp] theorem nextScriptStep_responses (s : State) : (nextScriptStep s).responses = s.responses := rfl
@[simp] theorem nextScriptStep_issued (s : State) : (nextScriptStep s).issued = s.issued := rfl
@[simp] theorem nextScriptStep_answered (s : State) : (nextScriptStep s).answered = s.answered := rfl
@[simp] theorem nextScriptStep_replies (s : State) : (nextScriptStep s).replies = s.replies := rfl

/-! ## startWalk (R126) -/

@[simp] theorem startWalk_lifecycle (s : State) : (startWalk s).lifecycle = s.lifecycle := rfl
@[simp] theorem startWalk_busy (s : State) : (startWalk s).busy = s.busy := rfl
@[simp] theorem startWalk_busMode (s : State) : (startWalk s).busMode = s.busMode := rfl
@[simp] theorem startWalk_owned (s : State) : (startWalk s).owned = s.owned := rfl
@[simp] theorem startWalk_lastErr (s : State) : (startWalk s).lastErr = s.lastErr := rfl
@[simp] theorem startWalk_spc (s : State) : (startWalk s).spc = 1 := rfl
@[simp] theorem startWalk_config (s : State) : (startWalk s).config = s.config := rfl
@[simp] theorem startWalk_held (s : State) : (startWalk s).held = s.held := rfl
@[simp] theorem startWalk_pending (s : State) : (startWalk s).pending = s.pending := rfl
@[simp] theorem startWalk_burst (s : State) : (startWalk s).burst = s.burst := rfl
@[simp] theorem startWalk_outstanding (s : State) : (startWalk s).outstanding = s.outstanding := rfl
@[simp] theorem startWalk_failed (s : State) : (startWalk s).failed = s.failed := rfl
@[simp] theorem startWalk_requests (s : State) : (startWalk s).requests = s.requests := rfl
@[simp] theorem startWalk_responses (s : State) : (startWalk s).responses = s.responses := rfl
@[simp] theorem startWalk_issued (s : State) : (startWalk s).issued = s.issued := rfl
@[simp] theorem startWalk_answered (s : State) : (startWalk s).answered = s.answered := rfl
@[simp] theorem startWalk_replies (s : State) : (startWalk s).replies = s.replies := rfl

/-! ## endOfGroup (R126) -/

@[simp] theorem endOfGroup_lifecycle (s : State) : (endOfGroup s).lifecycle = s.lifecycle := by
  unfold endOfGroup; split <;> rfl
@[simp] theorem endOfGroup_busy (s : State) : (endOfGroup s).busy = s.busy := by
  unfold endOfGroup; split <;> rfl
@[simp] theorem endOfGroup_busMode (s : State) : (endOfGroup s).busMode = s.busMode := by
  unfold endOfGroup; split <;> rfl
@[simp] theorem endOfGroup_owned (s : State) : (endOfGroup s).owned = s.owned := by
  unfold endOfGroup; split <;> rfl
@[simp] theorem endOfGroup_lastErr (s : State) : (endOfGroup s).lastErr = s.lastErr := by
  unfold endOfGroup; split <;> rfl
@[simp] theorem endOfGroup_spc (s : State) : (endOfGroup s).spc = if s.pending = [] ∧ s.held = some .init then s.spc + 1 else s.spc := by
  unfold endOfGroup; split <;> rfl
@[simp] theorem endOfGroup_config (s : State) : (endOfGroup s).config = s.config := by
  unfold endOfGroup; split <;> rfl
@[simp] theorem endOfGroup_held (s : State) : (endOfGroup s).held = s.held := by
  unfold endOfGroup; split <;> rfl
@[simp] theorem endOfGroup_pending (s : State) : (endOfGroup s).pending = s.pending := by
  unfold endOfGroup; split <;> rfl
@[simp] theorem endOfGroup_burst (s : State) : (endOfGroup s).burst = s.burst := by
  unfold endOfGroup; split <;> rfl
@[simp] theorem endOfGroup_outstanding (s : State) : (endOfGroup s).outstanding = s.outstanding := by
  unfold endOfGroup; split <;> rfl
@[simp] theorem endOfGroup_failed (s : State) : (endOfGroup s).failed = s.failed := by
  unfold endOfGroup; split <;> rfl
@[simp] theorem endOfGroup_requests (s : State) : (endOfGroup s).requests = s.requests := by
  unfold endOfGroup; split <;> rfl
@[simp] theorem endOfGroup_responses (s : State) : (endOfGroup s).responses = s.responses := by
  unfold endOfGroup; split <;> rfl
@[simp] theorem endOfGroup_issued (s : State) : (endOfGroup s).issued = s.issued := by
  unfold endOfGroup; split <;> rfl
@[simp] theorem endOfGroup_answered (s : State) : (endOfGroup s).answered = s.answered := by
  unfold endOfGroup; split <;> rfl
@[simp] theorem endOfGroup_replies (s : State) : (endOfGroup s).replies = s.replies := by
  unfold endOfGroup; split <;> rfl

/-! ## receiveResponse (R100) -/

@[simp] theorem receiveResponse_lifecycle (op : TransportOp) (tr : TRWord) (rest : List TRWord) (s : State) : (receiveResponse op tr rest s).lifecycle = s.lifecycle := by
  cases h : trFail tr <;> simp [receiveResponse, h]
@[simp] theorem receiveResponse_busy (op : TransportOp) (tr : TRWord) (rest : List TRWord) (s : State) : (receiveResponse op tr rest s).busy = s.busy := by
  cases h : trFail tr <;> simp [receiveResponse, h]
@[simp] theorem receiveResponse_busMode (op : TransportOp) (tr : TRWord) (rest : List TRWord) (s : State) : (receiveResponse op tr rest s).busMode = busModeAfter op (trFail tr) s.busMode := by
  cases h : trFail tr <;> simp [receiveResponse, h]
@[simp] theorem receiveResponse_owned (op : TransportOp) (tr : TRWord) (rest : List TRWord) (s : State) : (receiveResponse op tr rest s).owned = s.owned := by
  cases h : trFail tr <;> simp [receiveResponse, h]
@[simp] theorem receiveResponse_lastErr (op : TransportOp) (tr : TRWord) (rest : List TRWord) (s : State) : (receiveResponse op tr rest s).lastErr = s.lastErr := by
  cases h : trFail tr <;> simp [receiveResponse, h]
@[simp] theorem receiveResponse_spc (op : TransportOp) (tr : TRWord) (rest : List TRWord) (s : State) : (receiveResponse op tr rest s).spc = 
      if trFail tr then s.spc else if s.pending = [] ∧ s.held = some .init then s.spc + 1 else s.spc := by
  cases h : trFail tr <;> simp [receiveResponse, h]
@[simp] theorem receiveResponse_config (op : TransportOp) (tr : TRWord) (rest : List TRWord) (s : State) : (receiveResponse op tr rest s).config = s.config := by
  cases h : trFail tr <;> simp [receiveResponse, h]
@[simp] theorem receiveResponse_held (op : TransportOp) (tr : TRWord) (rest : List TRWord) (s : State) : (receiveResponse op tr rest s).held = s.held := by
  cases h : trFail tr <;> simp [receiveResponse, h]
@[simp] theorem receiveResponse_pending (op : TransportOp) (tr : TRWord) (rest : List TRWord) (s : State) : (receiveResponse op tr rest s).pending = s.pending := by
  cases h : trFail tr <;> simp [receiveResponse, h]
@[simp] theorem receiveResponse_burst (op : TransportOp) (tr : TRWord) (rest : List TRWord) (s : State) : (receiveResponse op tr rest s).burst = s.burst := by
  cases h : trFail tr <;> simp [receiveResponse, h]
@[simp] theorem receiveResponse_outstanding (op : TransportOp) (tr : TRWord) (rest : List TRWord) (s : State) : (receiveResponse op tr rest s).outstanding = none := by
  cases h : trFail tr <;> simp [receiveResponse, h]
@[simp] theorem receiveResponse_failed (op : TransportOp) (tr : TRWord) (rest : List TRWord) (s : State) : (receiveResponse op tr rest s).failed = if trFail tr then true else s.failed := by
  cases h : trFail tr <;> simp [receiveResponse, h]
@[simp] theorem receiveResponse_requests (op : TransportOp) (tr : TRWord) (rest : List TRWord) (s : State) : (receiveResponse op tr rest s).requests = s.requests := by
  cases h : trFail tr <;> simp [receiveResponse, h]
@[simp] theorem receiveResponse_responses (op : TransportOp) (tr : TRWord) (rest : List TRWord) (s : State) : (receiveResponse op tr rest s).responses = rest := by
  cases h : trFail tr <;> simp [receiveResponse, h]
@[simp] theorem receiveResponse_issued (op : TransportOp) (tr : TRWord) (rest : List TRWord) (s : State) : (receiveResponse op tr rest s).issued = s.issued := by
  cases h : trFail tr <;> simp [receiveResponse, h]
@[simp] theorem receiveResponse_answered (op : TransportOp) (tr : TRWord) (rest : List TRWord) (s : State) : (receiveResponse op tr rest s).answered = s.answered ++ [tr] := by
  cases h : trFail tr <;> simp [receiveResponse, h]
@[simp] theorem receiveResponse_replies (op : TransportOp) (tr : TRWord) (rest : List TRWord) (s : State) : (receiveResponse op tr rest s).replies = s.replies := by
  cases h : trFail tr <;> simp [receiveResponse, h]

/-! ## loadPixel (R155) -/

@[simp] theorem loadPixel_lifecycle (s : State) : (loadPixel s).lifecycle = s.lifecycle := by
  unfold loadPixel; split <;> rfl
@[simp] theorem loadPixel_busy (s : State) : (loadPixel s).busy = s.busy := by
  unfold loadPixel; split <;> rfl
@[simp] theorem loadPixel_busMode (s : State) : (loadPixel s).busMode = s.busMode := by
  unfold loadPixel; split <;> rfl
@[simp] theorem loadPixel_owned (s : State) : (loadPixel s).owned = s.owned := by
  unfold loadPixel; split <;> rfl
@[simp] theorem loadPixel_lastErr (s : State) : (loadPixel s).lastErr = s.lastErr := by
  unfold loadPixel; split <;> rfl
@[simp] theorem loadPixel_spc (s : State) : (loadPixel s).spc = s.spc := by
  unfold loadPixel; split <;> rfl
@[simp] theorem loadPixel_config (s : State) : (loadPixel s).config = s.config := by
  unfold loadPixel; split <;> rfl
@[simp] theorem loadPixel_held (s : State) : (loadPixel s).held = s.held := by
  unfold loadPixel; split <;> rfl
@[simp] theorem loadPixel_outstanding (s : State) : (loadPixel s).outstanding = s.outstanding := by
  unfold loadPixel; split <;> rfl
@[simp] theorem loadPixel_failed (s : State) : (loadPixel s).failed = s.failed := by
  unfold loadPixel; split <;> rfl
@[simp] theorem loadPixel_requests (s : State) : (loadPixel s).requests = s.requests := by
  unfold loadPixel; split <;> rfl
@[simp] theorem loadPixel_responses (s : State) : (loadPixel s).responses = s.responses := by
  unfold loadPixel; split <;> rfl
@[simp] theorem loadPixel_issued (s : State) : (loadPixel s).issued = s.issued := by
  unfold loadPixel; split <;> rfl
@[simp] theorem loadPixel_answered (s : State) : (loadPixel s).answered = s.answered := by
  unfold loadPixel; split <;> rfl
@[simp] theorem loadPixel_replies (s : State) : (loadPixel s).replies = s.replies := by
  unfold loadPixel; split <;> rfl

/-! ## construct (R45) -/

@[simp] theorem construct_lifecycle (c : Config) : (State.construct c).lifecycle = .uninit := rfl
@[simp] theorem construct_busy (c : Config) : (State.construct c).busy = false := rfl
@[simp] theorem construct_busMode (c : Config) : (State.construct c).busMode = .none := rfl
@[simp] theorem construct_owned (c : Config) : (State.construct c).owned = true := rfl
@[simp] theorem construct_lastErr (c : Config) : (State.construct c).lastErr = .ok := rfl
@[simp] theorem construct_spc (c : Config) : (State.construct c).spc = 0 := rfl
@[simp] theorem construct_config (c : Config) : (State.construct c).config = c := rfl
@[simp] theorem construct_held (c : Config) : (State.construct c).held = none := rfl
@[simp] theorem construct_pending (c : Config) : (State.construct c).pending = [] := rfl
@[simp] theorem construct_burst (c : Config) : (State.construct c).burst = none := rfl
@[simp] theorem construct_outstanding (c : Config) : (State.construct c).outstanding = none := rfl
@[simp] theorem construct_failed (c : Config) : (State.construct c).failed = false := rfl
@[simp] theorem construct_requests (c : Config) : (State.construct c).requests = [] := rfl
@[simp] theorem construct_responses (c : Config) : (State.construct c).responses = [] := rfl
@[simp] theorem construct_issued (c : Config) : (State.construct c).issued = [] := rfl
@[simp] theorem construct_answered (c : Config) : (State.construct c).answered = [] := rfl
@[simp] theorem construct_replies (c : Config) : (State.construct c).replies = [] := rfl

end Sys2Proof.Machine
end

