-- ==== Sys2Proof/Laws/Ops.lean ====
section
/-! SUPPORT. One spec lemma per shared operation: what it can answer, and what each group of instructions comes to over the
shared operations. -/

namespace Sys2Proof.Machine

/-- A transport operation's meaning is the next block step of its `emit` (R101 to R106). -/
theorem exec_transportOp (op : TransportOp) (s : State) : exec op.instr s = emitOp op s := by
  cases op <;> rfl

/-- A request's meaning while BUSY = 0: the first failing check's error, or the beginning of its body (R181). -/
theorem exec_request {s : State} (hb : s.busy = false) (r : Request) :
    exec r.instr s =
      .next (match checkRequest r s with
        | some e => raiseError e s
        | none => beginRequest r s) := by
  cases r <;>
    simp only [Request.instr, exec, execReset, execInitialize, execSetWindowColor, execSetPixel, execShutdown,
      acceptWhenReady, hb, checkRequest, beginRequest] <;> rfl

/-- A request offered while BUSY = 1 is not accepted (R260). -/
theorem exec_request_busy {s : State} (hb : s.busy = true) (r : Request) : exec r.instr s = .next s := by
  cases r <;>
    simp [Request.instr, exec, execReset, execInitialize, execSetWindowColor, execSetPixel, execShutdown,
      acceptWhenReady, hb]

/-- A script step that issues operations issues the first and leaves the others pending. -/
theorem exec_step_group {st : ScriptStep} {first : TransportOp} {others : List TransportOp}
    (h : stepOps st = first :: others) (s : State) : exec st.instr s = emitGroup first others s := by
  cases st <;> simp [stepOps, sendCommand, sendData] at h <;> obtain ⟨rfl, rfl⟩ := h <;> rfl

/-- `emitOp` while nothing is outstanding. -/
theorem emitOp_issue {s : State} (h : s.outstanding = none) (op : TransportOp) :
    emitOp op s = .next (issueOp op s) := by
  simp [emitOp, h]

/-- `emitOp` while its operation is outstanding and the transport has not answered. -/
theorem emitOp_wait {s : State} {op : TransportOp} (h : s.outstanding = some op) (hr : s.responses = []) :
    emitOp op s = .next s := by
  simp [emitOp, h, hr]

/-- `emitOp` while its operation is outstanding and a response stands. -/
theorem emitOp_receive {s : State} {op : TransportOp} {tr : TRWord} {rest : List TRWord}
    (h : s.outstanding = some op) (hr : s.responses = tr :: rest) :
    emitOp op s = .next (receiveResponse op tr rest s) := by
  simp [emitOp, h, hr]

/-- `emitGroup` while nothing is outstanding. -/
theorem emitGroup_issue {s : State} (h : s.outstanding = none) (first : TransportOp) (others : List TransportOp) :
    emitGroup first others s = .next (issueOp first { s with pending := others }) := by
  simp [emitGroup, h]

/-- `loadPixel` leaves a state alone whose pending operations, after it, are none. -/
theorem loadPixel_eq_self {s : State} (h : (loadPixel s).pending = []) : loadPixel s = s := by
  unfold loadPixel at h ⊢
  split at h
  · simp [pixelGroup, sendHalf, sendData] at h
  · rfl

/-- `loadPixel` leaves a state alone in which operations are pending. -/
theorem loadPixel_of_pending {s : State} (h : s.pending ≠ []) : loadPixel s = s := by
  unfold loadPixel
  split
  · exact absurd ‹_› h
  · rfl

/-- `loadPixel` leaves a state alone in which no burst is in progress. -/
theorem loadPixel_of_burst_none {s : State} (h : s.burst = none) : loadPixel s = s := by
  unfold loadPixel
  split
  · simp_all
  · rfl

/-- `loadPixel` at the next pixel of a burst. -/
theorem loadPixel_pixel {s : State} {p : PixelCounters} {w : Window} {color : Half} (hp : s.pending = [])
    (hb : s.burst = some p) (hh : s.held = some (.setWindowColor w color)) :
    loadPixel s =
      { s with pending := pixelGroup s.config w (constantSource color) p, burst := nextPixel w p } := by
  simp [loadPixel, hp, hb, hh]

/-- The lifecycle check refuses with NOT_READY or USAGE_VIOLATION only, and outside its source state only. -/
theorem lifecycleCheck_error {source l : Lifecycle} {e : ErrCode} (h : lifecycleCheck source l = some e) :
    e = .notReady ∨ e = .usageViolation := by
  unfold lifecycleCheck at h
  split at h
  · simp_all
  · split at h <;> simp_all

/-- The lifecycle check passes in its source state only. -/
theorem lifecycleCheck_pass {source l : Lifecycle} (h : lifecycleCheck source l = none) : l = source := by
  unfold lifecycleCheck at h
  split at h
  · simp at h
  · split at h <;> simp_all

/-- The pixel check refuses with NOT_READY or USAGE_VIOLATION only. -/
theorem pixelCheck_error {inRange : Bool} {l : Lifecycle} {e : ErrCode} (h : pixelCheck inRange l = some e) :
    e = .notReady ∨ e = .usageViolation := by
  unfold pixelCheck at h
  split at h
  · split at h <;> simp_all
  · simp_all

/-- The pixel check passes in READY, in range, only. -/
theorem pixelCheck_pass {inRange : Bool} {l : Lifecycle} (h : pixelCheck inRange l = none) :
    l = .ready ∧ inRange = true := by
  unfold pixelCheck at h
  split at h
  · split at h <;> simp_all
  · simp at h

/-- What the checks of a request can refuse with (R185): a configuration error only for INITIALIZE in RESETTING with a
malformed script. -/
theorem checkRequest_error {r : Request} {s : State} {e : ErrCode} (h : checkRequest r s = some e) :
    e = .notReady ∨ e = .usageViolation ∨
      (e = .configurationError ∧ r = .init ∧ s.lifecycle = .resetting ∧
        wellFormedScript s.config.script = false) := by
  cases r with
  | reset => exact (lifecycleCheck_error h).imp_right .inl
  | init =>
    simp only [checkRequest, checkInitialize] at h
    split at h
    · next e' he => cases h; exact (lifecycleCheck_error he).imp_right .inl
    · next he =>
      split at h
      · simp at h
      · cases h; exact .inr (.inr ⟨rfl, rfl, lifecycleCheck_pass he, by simp_all⟩)
  | setWindowColor w color => exact (pixelCheck_error h).imp_right .inl
  | setPixel x y color => exact (pixelCheck_error h).imp_right .inl
  | shutdown => exact (lifecycleCheck_error h).imp_right .inl

/-- When the checks of a request pass (R188 to R194). -/
theorem checkRequest_pass {r : Request} {s : State} (h : checkRequest r s = none) :
    match r with
    | .reset => s.lifecycle = .uninit
    | .init => s.lifecycle = .resetting ∧ wellFormedScript s.config.script = true
    | .setWindowColor w _ => s.lifecycle = .ready ∧ validWindow s.config w = true
    | .setPixel x y _ => s.lifecycle = .ready ∧ validPixel s.config x y = true
    | .shutdown => s.lifecycle = .ready := by
  cases r with
  | reset => exact lifecycleCheck_pass h
  | init =>
    simp only [checkRequest, checkInitialize] at h
    split at h
    · simp at h
    · next he => split at h <;> simp_all [lifecycleCheck_pass he]
  | setWindowColor w color => exact pixelCheck_pass h
  | setPixel x y color => exact pixelCheck_pass h
  | shutdown => exact lifecycleCheck_pass h

end Sys2Proof.Machine
end

