-- ==== Sys2Proof/Laws/Step.lean ====
section
/-! SUPPORT. What one block step can do, said once: an equation for each kind of block step, and the inversion `BlockStep`
from which invariants are derived without unfolding `step`. -/

namespace Sys2Proof.Machine

variable {s t : State}

/-- With no request on offer the idle block waits. -/
theorem step_noRequest (hb : s.busy = false) (hr : s.requests = []) : step s = .next s := by
  simp [step, fetch, fetchRequest, hb, hr]

/-- An illegal word on offer is answered at once (R183). -/
theorem step_illegal {rq : RQWord} {rest : List RQWord} (hb : s.busy = false) (hr : s.requests = rq :: rest)
    (hd : decodeRQ rq = none) : step s = .next (raiseError .illegalRequest { s with requests := rest }) := by
  simp [step, fetch, fetchRequest, hb, hr, hd]

/-- A legal request on offer is taken and run (R181). -/
theorem step_request {rq : RQWord} {rest : List RQWord} {r : Request} (hb : s.busy = false)
    (hr : s.requests = rq :: rest) (hd : decodeRQ rq = some r) :
    step s = exec r.instr { s with requests := rest } := by
  simp [step, fetch, fetchRequest, hb, hr, hd]

/-- An outstanding operation runs until its response has arrived (R42). -/
theorem step_outstanding {op : TransportOp} (hb : s.busy = true) (ho : s.outstanding = some op) :
    step s = emitOp op s := by
  simp [step, fetch, fetchBusy, hb, ho, exec_transportOp]

/-- A raised TransportFailure is entered (R223). -/
theorem step_failed (hb : s.busy = true) (ho : s.outstanding = none) (hf : s.failed = true) :
    step s = .next (raiseError .transportFailure s) := by
  simp [step, fetch, fetchBusy, hb, ho, hf]

/-- The next pending operation is issued (R42). -/
theorem step_issue {op : TransportOp} {ops : List TransportOp} (hb : s.busy = true) (ho : s.outstanding = none)
    (hf : s.failed = false) (hp : (loadPixel s).pending = op :: ops) :
    step s = .next (issueOp op { loadPixel s with pending := ops }) := by
  simp [step, fetch, fetchBusy, fetchBody, hb, ho, hf, hp, exec_transportOp, emitOp]

/-- The script step at SPC is fetched and run (R126). -/
theorem step_script {w : SWWord} {st : ScriptStep} (hb : s.busy = true) (ho : s.outstanding = none)
    (hf : s.failed = false) (hp : (loadPixel s).pending = []) (hh : s.held = some .init)
    (hw : scriptRead s.config.script s.spc = some w) (hd : decodeSW w = some st) :
    step s = exec st.instr s := by
  simp only [step, fetch, fetchBusy, hb, ho, hf, loadPixel_eq_self hp]
  rw [loadPixel_eq_self hp] at hp
  simp [fetchBody, fetchScript, hp, hh, hw, hd]

/-- A body with nothing left to issue is answered OK (R182). -/
theorem step_finish (hb : s.busy = true) (ho : s.outstanding = none) (hf : s.failed = false)
    (hp : (loadPixel s).pending = []) (hh : s.held ≠ some .init) : step s = .next (finish .ok s) := by
  simp only [step, fetch, fetchBusy, hb, ho, hf, loadPixel_eq_self hp]
  rw [loadPixel_eq_self hp] at hp
  simp [fetchBody, hp, hh]

/-- The block steps (R58): what a step from `s` that answers a next state can have done. -/
inductive BlockStep (s : State) : State → Prop
  | noRequest (hb : s.busy = false) (hr : s.requests = []) : BlockStep s s
  | illegal (rq : RQWord) (rest : List RQWord) (hb : s.busy = false) (hr : s.requests = rq :: rest)
      (hd : decodeRQ rq = none) : BlockStep s (raiseError .illegalRequest { s with requests := rest })
  | refused (rq : RQWord) (rest : List RQWord) (r : Request) (e : ErrCode) (hb : s.busy = false)
      (hr : s.requests = rq :: rest) (hd : decodeRQ rq = some r) (hc : checkRequest r s = some e) :
      BlockStep s (raiseError e { s with requests := rest })
  | accepted (rq : RQWord) (rest : List RQWord) (r : Request) (hb : s.busy = false)
      (hr : s.requests = rq :: rest) (hd : decodeRQ rq = some r) (hc : checkRequest r s = none) :
      BlockStep s (beginRequest r { s with requests := rest })
  | waiting (op : TransportOp) (hb : s.busy = true) (ho : s.outstanding = some op) (hr : s.responses = []) :
      BlockStep s s
  | receive (op : TransportOp) (tr : TRWord) (rest : List TRWord) (hb : s.busy = true)
      (ho : s.outstanding = some op) (hr : s.responses = tr :: rest) : BlockStep s (receiveResponse op tr rest s)
  | failure (hb : s.busy = true) (ho : s.outstanding = none) (hf : s.failed = true) :
      BlockStep s (raiseError .transportFailure s)
  | issue (op : TransportOp) (ops : List TransportOp) (hb : s.busy = true) (ho : s.outstanding = none)
      (hf : s.failed = false) (hp : s.pending = op :: ops) :
      BlockStep s (issueOp op { s with pending := ops })
  | pixel (p : PixelCounters) (w : Window) (color : Half) (op : TransportOp) (ops : List TransportOp)
      (hb : s.busy = true) (ho : s.outstanding = none) (hf : s.failed = false) (hp : s.pending = [])
      (hu : s.burst = some p) (hh : s.held = some (.setWindowColor w color))
      (hg : pixelGroup s.config w (constantSource color) p = op :: ops) :
      BlockStep s (issueOp op { s with pending := ops, burst := nextPixel w p })
  | start (w : SWWord) (hb : s.busy = true) (ho : s.outstanding = none) (hf : s.failed = false)
      (hp : s.pending = []) (hh : s.held = some .init) (hw : scriptRead s.config.script s.spc = some w)
      (hd : decodeSW w = some .start) : BlockStep s (nextScriptStep s)
  | endMark (w : SWWord) (hb : s.busy = true) (ho : s.outstanding = none) (hf : s.failed = false)
      (hp : s.pending = []) (hh : s.held = some .init) (hw : scriptRead s.config.script s.spc = some w)
      (hd : decodeSW w = some .endMark) : BlockStep s (finish .ok { s with lifecycle := .ready })
  | scriptStep (w : SWWord) (st : ScriptStep) (op : TransportOp) (ops : List TransportOp) (hb : s.busy = true)
      (ho : s.outstanding = none) (hf : s.failed = false) (hp : s.pending = []) (hh : s.held = some .init)
      (hw : scriptRead s.config.script s.spc = some w) (hd : decodeSW w = some st) (hs : stepOps st = op :: ops) :
      BlockStep s (issueOp op { s with pending := ops })
  | finished (hb : s.busy = true) (ho : s.outstanding = none) (hf : s.failed = false) (hp : s.pending = [])
      (hl : loadPixel s = s) (hh : s.held ≠ some .init) : BlockStep s (finish .ok s)

theorem checkRequest_requests (r : Request) (s : State) (rest : List RQWord) :
    checkRequest r { s with requests := rest } = checkRequest r s := by
  cases r <;> rfl

/-- The pending operations after `loadPixel`, where none were pending before it: a pixel of the burst was loaded. -/
theorem loadPixel_cases {op : TransportOp} {ops : List TransportOp} (h : (loadPixel s).pending = op :: ops) :
    (s.pending = op :: ops ∧ loadPixel s = s) ∨
      ∃ p w color, s.pending = [] ∧ s.burst = some p ∧ s.held = some (.setWindowColor w color) ∧
        pixelGroup s.config w (constantSource color) p = op :: ops := by
  unfold loadPixel at h ⊢
  split at h
  · exact .inr ⟨_, _, _, ‹_›, ‹_›, ‹_›, h⟩
  · exact .inl ⟨h, rfl⟩

/-- The inversion of `step`: a next state is reached by one of the block steps. -/
theorem blockStep_of_step (h : step s = .next t) : BlockStep s t := by
  rcases hb : s.busy with _ | _
  · rcases hr : s.requests with _ | ⟨rq, rest⟩
    · rw [step_noRequest hb hr] at h; cases h; exact .noRequest hb hr
    · rcases hd : decodeRQ rq with _ | r
      · rw [step_illegal hb hr hd] at h; cases h; exact .illegal rq rest hb hr hd
      · rw [step_request hb hr hd, exec_request (by exact hb), checkRequest_requests] at h
        rcases hc : checkRequest r s with _ | e <;> rw [hc] at h <;> cases h
        · exact .accepted rq rest r hb hr hd hc
        · exact .refused rq rest r e hb hr hd hc
  · rcases ho : s.outstanding with _ | op
    · rcases hf : s.failed with _ | _
      · rcases hp : (loadPixel s).pending with _ | ⟨op, ops⟩
        · have hl := loadPixel_eq_self hp
          have hp' : s.pending = [] := hl ▸ hp
          by_cases hh : s.held = some .init
          · rcases hw : scriptRead s.config.script s.spc with _ | w
            · simp [step, fetch, fetchBusy, fetchBody, fetchScript, hb, ho, hf, hl, hp', hh, hw] at h
            · rcases hd : decodeSW w with _ | st
              · simp [step, fetch, fetchBusy, fetchBody, fetchScript, hb, ho, hf, hl, hp', hh, hw, hd] at h
              · rw [step_script hb ho hf hp hh hw hd] at h
                rcases hs : stepOps st with _ | ⟨op, ops⟩
                · cases st <;> simp [stepOps, sendCommand, sendData] at hs
                  · cases h; exact .start w hb ho hf hp' hh hw hd
                  · cases h; exact .endMark w hb ho hf hp' hh hw hd
                · rw [exec_step_group hs, emitGroup_issue ho] at h; cases h
                  exact .scriptStep w st op ops hb ho hf hp' hh hw hd hs
          · rw [step_finish hb ho hf hp hh] at h; cases h
            exact .finished hb ho hf hp' hl hh
        · rw [step_issue hb ho hf hp] at h; cases h
          rcases loadPixel_cases hp with ⟨hp', hl⟩ | ⟨p, w, color, hp', hu, hh, hg⟩
          · rw [hl]; exact .issue op ops hb ho hf hp'
          · rw [loadPixel_pixel hp' hu hh]
            exact .pixel p w color op ops hb ho hf hp' hu hh hg
      · rw [step_failed hb ho hf] at h; cases h; exact .failure hb ho hf
    · rcases hr : s.responses with _ | ⟨tr, rest⟩
      · rw [step_outstanding hb ho, emitOp_wait ho hr] at h; cases h; exact .waiting op hb ho hr
      · rw [step_outstanding hb ho, emitOp_receive ho hr] at h; cases h; exact .receive op tr rest hb ho hr

end Sys2Proof.Machine
end

