-- ==== Sys2Proof/Laws/Memory.lean ====
section
/-! SUPPORT. The script ROM keeps its form (R8): at reset, through the placing of a word inside it, and through every block
step, since no operation of the block writes it (R51). -/

namespace Sys2Proof.Machine

/-- The ROM of the reset state has its form. -/
theorem reset_script_wf : Memory.wf State.reset.config.script = true := by decide

/-- `placeWord`'s one write of the ROM keeps the form, for every index a 16-bit SPC can hold but the last. -/
theorem placeScript_wf {m : Memory} (h : Memory.wf m = true) {i : Nat} (hi : i < 65535) (w : SWWord) :
    Memory.wf (placeScript m i w) = true := by
  simp only [Memory.wf, Bool.and_eq_true, decide_eq_true_eq] at h ⊢
  simp only [placeScript, List.length_append, List.length_take, List.length_replicate, List.length_cons,
    List.length_nil, List.length_drop]
  omega

/-- The word placed is the word read there. -/
theorem scriptRead_placeScript (m : Memory) (i : Half) (w : SWWord) :
    scriptRead (placeScript m i.toNat w) i = some w := by
  simp only [scriptRead, placeScript]
  have h : (m.take i.toNat ++ List.replicate (i.toNat - m.length) (0 : SWWord)).length = i.toNat := by
    simp only [List.length_append, List.length_take, List.length_replicate]; omega
  rw [List.append_assoc, List.getElem?_append_right (by omega), h, Nat.sub_self]
  rfl

/-- No block step changes the ROM. -/
theorem step_script_eq {s t : State} (h : step s = .next t) : t.config.script = s.config.script := by
  cases blockStep_of_step h with
  | accepted rq rest r => cases r <;> rfl
  | _ => simp

/-- Every block step keeps the ROM's form. -/
theorem step_script_wf {s t : State} (hs : Memory.wf s.config.script = true) (h : step s = .next t) :
    Memory.wf t.config.script = true := by
  rw [step_script_eq h]; exact hs

end Sys2Proof.Machine
end

