-- ==== Sys2Proof/Laws/PerInstr.lean ====
section
/-! SUPPORT. One statement about every instruction as syntax: its word, on its channel, matches its row of the opcode table
(`word & mask = match`). -/

namespace Sys2Proof.Laws

/-- A row of the opcode table, on the channel of its format: its mask and its match. -/
inductive TableRow.Row where
  | rq (mask value : RQWord)
  | sw (mask value : SWWord)
  | op (mask value : TOWord)
  deriving DecidableEq, Repr

/-- The row of each instruction (spec/opcode_table.json). -/
def TableRow.row : Instr → TableRow.Row
  | .rqReset => .rq 0xFFFFFFFFFFFFFFFFFFFFFFFFFFFFFFFF 0x00000000000000000000000000000001
  | .rqInitialize => .rq 0xFFFFFFFFFFFFFFFFFFFFFFFFFFFFFFFF 0x00000000000000000000000000000002
  | .rqSetWindowColor _ _ _ _ _ => .rq 0xFFFFFFFF00000000000000000000FFFF 0x00000000000000000000000000000003
  | .rqSetPixel _ _ _ => .rq 0xFFFFFFFFFFFFFFFF000000000000FFFF 0x00000000000000000000000000000004
  | .rqShutdown => .rq 0xFFFFFFFFFFFFFFFFFFFFFFFFFFFFFFFF 0x00000000000000000000000000000005
  | .swStart => .sw 0xFFFFFFFFF 0x100000000
  | .swCmd _ => .sw 0xFFFFFFF00 0x200000000
  | .swData _ => .sw 0xFFFFFFF00 0x300000000
  | .swDelay _ => .sw 0xF00000000 0x400000000
  | .swEnd => .sw 0xFFFFFFFFF 0xF00000000
  | .toAssertReset => .op 0xFFFFFFFFF 0x100000000
  | .toReleaseReset => .op 0xFFFFFFFFF 0x200000000
  | .toSelectCmd => .op 0xFFFFFFFFF 0x300000000
  | .toSelectData => .op 0xFFFFFFFFF 0x400000000
  | .toTransfer _ => .op 0xFFFFFFF00 0x500000000
  | .toSleep _ => .op 0xF00000000 0x600000000

/-- Whether a word is one of a row, on the row's channel. -/
def TableRow.fits : ChannelWord → TableRow.Row → Bool
  | .rq w, .rq mask value => w &&& mask == value
  | .rq _, .sw _ _ => false
  | .rq _, .op _ _ => false
  | .sw w, .sw mask value => w &&& mask == value
  | .sw _, .rq _ _ => false
  | .sw _, .op _ _ => false
  | .op w, .op mask value => w &&& mask == value
  | .op _, .rq _ _ => false
  | .op _, .sw _ _ => false

/-- The word of an instruction fits its row of the table. -/
def TableRow.Statement (i : Instr) : Prop := TableRow.fits (encode i) (TableRow.row i) = true

theorem and_append {m n : Nat} (a c : BitVec m) (b d : BitVec n) : (a ++ b) &&& (c ++ d) = (a &&& c) ++ (b &&& d) := by
  ext i hi
  simp only [BitVec.getElem_and, BitVec.getElem_append]
  split <;> rfl

theorem byteWord_and (tag : BitVec 4) (b : Byte) :
    (tag ++ (0 : BitVec 24) ++ b) &&& (0xFFFFFFF00 : BitVec 36) = tag ++ (0 : BitVec 24) ++ (0 : Byte) := by
  rw [show (0xFFFFFFF00 : BitVec 36) = BitVec.allOnes 4 ++ BitVec.allOnes 24 ++ (0 : Byte) by decide, and_append,
    and_append, BitVec.and_allOnes, BitVec.and_allOnes]
  rw [show b &&& 0 = 0 from BitVec.and_zero]

theorem longWord_and (tag : BitVec 4) (ms : BitVec 32) :
    (tag ++ ms) &&& (0xF00000000 : BitVec 36) = tag ++ (0 : BitVec 32) := by
  rw [show (0xF00000000 : BitVec 36) = BitVec.allOnes 4 ++ (0 : BitVec 32) by decide, and_append, BitVec.and_allOnes]
  rw [show ms &&& 0 = 0 from BitVec.and_zero]

theorem setWindowColor_and (w : Window) (color : Half) :
    Request.word (.setWindowColor w color) &&& 0xFFFFFFFF00000000000000000000FFFF = 3 := by
  rw [show (0xFFFFFFFF00000000000000000000FFFF : RQWord) =
      BitVec.allOnes 32 ++ (0 : Half) ++ (0 : Half) ++ (0 : Half) ++ (0 : Half) ++ (0 : Half) ++ BitVec.allOnes 8 ++
        BitVec.allOnes 8 by decide, Request.word]
  repeat rw [and_append]
  rw [show w.y1 &&& 0 = 0 from BitVec.and_zero, show w.x1 &&& 0 = 0 from BitVec.and_zero,
    show w.y0 &&& 0 = 0 from BitVec.and_zero, show w.x0 &&& 0 = 0 from BitVec.and_zero,
    show color &&& 0 = 0 from BitVec.and_zero]
  decide

theorem setPixel_and (x y color : Half) :
    Request.word (.setPixel x y color) &&& 0xFFFFFFFFFFFFFFFF000000000000FFFF = 4 := by
  rw [show (0xFFFFFFFFFFFFFFFF000000000000FFFF : RQWord) =
      BitVec.allOnes 64 ++ (0 : Half) ++ (0 : Half) ++ (0 : Half) ++ BitVec.allOnes 8 ++ BitVec.allOnes 8 by decide,
    Request.word]
  repeat rw [and_append]
  rw [show y &&& 0 = 0 from BitVec.and_zero, show x &&& 0 = 0 from BitVec.and_zero,
    show color &&& 0 = 0 from BitVec.and_zero]
  decide

theorem TableRow.rqReset : TableRow.Statement .rqReset := rfl
theorem TableRow.rqInitialize : TableRow.Statement .rqInitialize := rfl
theorem TableRow.rqSetWindowColor (x0 y0 x1 y1 color : Half) :
    TableRow.Statement (.rqSetWindowColor x0 y0 x1 y1 color) :=
  beq_iff_eq.mpr (setWindowColor_and _ color)
theorem TableRow.rqSetPixel (x y color : Half) : TableRow.Statement (.rqSetPixel x y color) :=
  beq_iff_eq.mpr (setPixel_and x y color)
theorem TableRow.rqShutdown : TableRow.Statement .rqShutdown := rfl
theorem TableRow.swStart : TableRow.Statement .swStart := rfl
theorem TableRow.swCmd (byte : Byte) : TableRow.Statement (.swCmd byte) := beq_iff_eq.mpr (byteWord_and 0x2 byte)
theorem TableRow.swData (byte : Byte) : TableRow.Statement (.swData byte) := beq_iff_eq.mpr (byteWord_and 0x3 byte)
theorem TableRow.swDelay (ms : BitVec 32) : TableRow.Statement (.swDelay ms) := beq_iff_eq.mpr (longWord_and 0x4 ms)
theorem TableRow.swEnd : TableRow.Statement .swEnd := rfl
theorem TableRow.toAssertReset : TableRow.Statement .toAssertReset := rfl
theorem TableRow.toReleaseReset : TableRow.Statement .toReleaseReset := rfl
theorem TableRow.toSelectCmd : TableRow.Statement .toSelectCmd := rfl
theorem TableRow.toSelectData : TableRow.Statement .toSelectData := rfl
theorem TableRow.toTransfer (byte : Byte) : TableRow.Statement (.toTransfer byte) :=
  beq_iff_eq.mpr (byteWord_and 0x5 byte)
theorem TableRow.toSleep (ms : BitVec 32) : TableRow.Statement (.toSleep ms) := beq_iff_eq.mpr (longWord_and 0x6 ms)

end Sys2Proof.Laws
end

