-- ==== Sys2Proof/Laws/Runs.lean ====
section
/-! SUPPORT. Runs of several block steps: one step more, two runs in a row, and a state that a step leaves alone. -/

namespace Sys2Proof.Machine

variable {s t : State}

/-- A run that begins with a known block step. -/
theorem runFor_succ_of_step (h : step s = .next t) (n : Nat) : runFor (n + 1) s = runFor n t := by
  simp [runFor, h]

/-- A run in two parts, where the first ends in a next state. -/
theorem runFor_add_of_next {m : Nat} (h : runFor m s = .next t) (n : Nat) : runFor (m + n) s = runFor n t := by
  induction m generalizing s with
  | zero => simp only [runFor, Host.Outcome.next.injEq] at h; rw [h, Nat.zero_add]
  | succ m ih =>
    rw [Nat.add_right_comm]
    simp only [runFor] at h ⊢
    split at h
    · exact ih h
    · cases h
    · cases h

/-- A run from a state that a block step leaves alone stays there. -/
theorem runFor_of_step_self (h : step s = .next s) (n : Nat) : runFor n s = .next s := by
  induction n with
  | zero => rfl
  | succ n ih => rw [runFor_succ_of_step h, ih]

/-- A shorter run of a run that ends in a next state ends in a next state. -/
theorem runFor_prefix_of_next {m n : Nat} (h : runFor (m + n) s = .next t) : ∃ u, runFor m s = .next u := by
  induction m generalizing s with
  | zero => exact ⟨s, rfl⟩
  | succ m ih =>
    rw [Nat.add_right_comm] at h
    simp only [runFor] at h ⊢
    split at h
    · exact ih h
    · cases h
    · cases h

/-- Nothing is loaded while INITIALIZE is held. -/
theorem loadPixel_of_init (h : s.held = some .init) : loadPixel s = s := by
  unfold loadPixel
  split <;> simp_all

end Sys2Proof.Machine
end

