-- ==== Sys2Proof/Laws/Script.lean ====
section
/-! SUPPORT. The shape of a well-formed script (R121) and the reading of the script ROM (R50): what stands at index 0, between
START and END, and at the end index. -/

namespace Sys2Proof.Machine

variable {m : Memory}

/-- ScriptRead is defined exactly below SCRIPT_LEN (R50). -/
theorem scriptRead_eq_none_iff (m : Memory) (i : Half) : scriptRead m i = none ↔ m.length ≤ i.toNat := by
  simp [scriptRead]

/-- The words after index 0 are the body and the rest. -/
theorem bodyWords_append_endWords (m : Memory) : bodyWords m ++ endWords m = m.tail :=
  List.takeWhile_append_dropWhile

/-- A word of the body does not have TAG 0xF. -/
theorem beforeEnd_of_mem_bodyWords {w : SWWord} (h : w ∈ bodyWords m) : beforeEnd w = true :=
  List.mem_takeWhile_imp h

/-- A well-formed script: START, the body, END, and words that are not read. -/
theorem wellFormedScript_shape (h : wellFormedScript m = true) :
    ∃ first rest, m = first :: (bodyWords m ++ ScriptStep.word .endMark :: rest) ∧ decodeSW first = some .start := by
  simp only [wellFormedScript, Bool.and_eq_true] at h
  obtain ⟨⟨⟨_, h2⟩, h3⟩, _⟩ := h
  have e := bodyWords_append_endWords m
  rcases he : endWords m with _ | ⟨b, rest⟩
  · simp [he] at h3
  · rcases m with _ | ⟨a, l⟩
    · simp [endWords] at he
    · simp only [he, List.head?_cons, beq_iff_eq, Option.some.injEq] at h3
      rw [he, h3] at e
      exact ⟨a, rest, by rw [e, List.tail_cons], by simpa using h2⟩

/-- Every body word of a well-formed script is a CMD, DATA or DELAY step. -/
theorem isBodyStep_of_mem {w : SWWord} (h : wellFormedScript m = true) (hw : w ∈ bodyWords m) : isBodyStep w = true := by
  simp only [wellFormedScript, Bool.and_eq_true] at h
  exact List.all_eq_true.mp h.2 w hw

/-- A body word decodes to a step that issues operations. -/
theorem stepOps_of_isBodyStep {w : SWWord} (h : isBodyStep w = true) :
    ∃ st first others, decodeSW w = some st ∧ stepOps st = first :: others := by
  rcases hd : decodeSW w with _ | st
  · simp [isBodyStep, hd] at h
  · cases st <;> simp [isBodyStep, hd] at h <;> exact ⟨_, _, _, rfl, rfl⟩

/-- The end index lies inside the ROM (R121). -/
theorem endIndex_lt (h : wellFormedScript m = true) : endIndex m < m.length := by
  obtain ⟨a, rest, hm, -⟩ := wellFormedScript_shape h
  have := congrArg List.length hm
  simp only [List.length_cons, List.length_append] at this
  simp only [endIndex]
  omega

/-- START stands at index 0 (R121). -/
theorem getElem_zero_of_wellFormed (h : wellFormedScript m = true) : ∃ w, m[0]? = some w ∧ decodeSW w = some .start := by
  obtain ⟨a, rest, hm, hd⟩ := wellFormedScript_shape h
  exact ⟨a, by rw [hm]; rfl, hd⟩

/-- Between START and END stand the body words, in order (R121). -/
theorem getElem_body_of_wellFormed (h : wellFormedScript m = true) {i : Nat} (h1 : 1 ≤ i) (h2 : i < endIndex m) :
    ∃ w, m[i]? = some w ∧ (bodyWords m)[i - 1]? = some w := by
  obtain ⟨a, rest, hm, -⟩ := wellFormedScript_shape h
  obtain ⟨j, rfl⟩ : ∃ j, i = j + 1 := ⟨i - 1, by omega⟩
  have hj : j < (bodyWords m).length := by simp only [endIndex] at h2; omega
  refine ⟨(bodyWords m)[j], ?_, List.getElem?_eq_getElem hj⟩
  conv_lhs => rw [hm]
  rw [List.getElem?_cons_succ, List.getElem?_append_left hj, List.getElem?_eq_getElem hj]

/-- END stands at the end index (R121). -/
theorem getElem_endIndex_of_wellFormed (h : wellFormedScript m = true) :
    m[endIndex m]? = some (ScriptStep.word .endMark) := by
  obtain ⟨first, rest, hm, -⟩ := wellFormedScript_shape h
  have e : (first :: (bodyWords m ++ ScriptStep.word .endMark :: rest))[endIndex m]? =
      some (ScriptStep.word .endMark) := by
    rw [endIndex, Nat.add_comm, List.getElem?_cons_succ, List.getElem?_append_right (Nat.le_refl _), Nat.sub_self]
    rfl
  rwa [← hm] at e

end Sys2Proof.Machine
end

