-- ==== Sys2Proof/Laws/Sequences.lean ====
section
/-! SUPPORT. The operation sequences: which of them are framed (R107, R108), their bytes, and what the words of operations
are. -/

namespace Sys2Proof.Machine

/-- A sequence framed after nothing is framed after a select too. -/
theorem framed_of_false {afterSelect : Bool} {ops : List TransportOp} (h : framed false ops = true) :
    framed afterSelect ops = true := by
  cases ops with
  | nil => rfl
  | cons op ops => cases op <;> simp_all [framed]

/-- The rest of a framed sequence, after its first operation. -/
theorem framed_tail {afterSelect : Bool} {op : TransportOp} {ops : List TransportOp}
    (h : framed afterSelect (op :: ops) = true) : framed (isSelect op) ops = true := by
  cases op <;> simp_all [framed, isSelect]

/-- Two framed sequences in a row. -/
theorem framed_append {afterSelect : Bool} {xs ys : List TransportOp} (hx : framed afterSelect xs = true)
    (hy : framed false ys = true) : framed afterSelect (xs ++ ys) = true := by
  induction xs generalizing afterSelect with
  | nil => exact framed_of_false hy
  | cons op xs ih => cases op <;> simp_all [framed]

@[simp] theorem framed_sendCommand (b : Byte) : framed false (sendCommand b) = true := rfl

@[simp] theorem framed_sendHalf (v : Half) : framed false (sendHalf v) = true := rfl

@[simp] theorem framed_stepOps (st : ScriptStep) : framed false (stepOps st) = true := by cases st <;> rfl

theorem framed_pixelGroup (c : Config) (w : Window) (src : Nat → Half → Half → Half) (p : PixelCounters) :
    framed false (pixelGroup c w src p) = true :=
  framed_append (framed_sendHalf _) (by split <;> rfl)

theorem bytesOf_append (xs ys : List TransportOp) : bytesOf (xs ++ ys) = bytesOf xs ++ bytesOf ys :=
  List.filterMap_append

theorem bytesOf_flatMap {α : Type} (xs : List α) (f : α → List TransportOp) :
    bytesOf (xs.flatMap f) = xs.flatMap (fun x => bytesOf (f x)) := by
  induction xs with
  | nil => rfl
  | cons x xs ih => rw [List.flatMap_cons, List.flatMap_cons, bytesOf_append, ih]

@[simp] theorem bytesOf_sendHalf (v : Half) : bytesOf (sendHalf v) = [hiByte v, loByte v] := rfl

@[simp] theorem bytesOf_sendCommand (b : Byte) : bytesOf (sendCommand b) = [b] := rfl

/-- The word of TRANSFER is no select's. -/
theorem transfer_word_ne (b : Byte) :
    (TransportOp.transfer b).word ≠ 0x300000000 ∧ (TransportOp.transfer b).word ≠ 0x400000000 := by
  have h : (TransportOp.transfer b).word.toNat = _ := toNat_byteWord 5 b
  have := b.isLt
  constructor <;> intro e <;> rw [e] at h <;> simp at h <;> omega

/-- The word of SLEEP is no select's. -/
theorem sleep_word_ne (ms : BitVec 32) :
    (TransportOp.sleep ms).word ≠ 0x300000000 ∧ (TransportOp.sleep ms).word ≠ 0x400000000 := by
  have h : (TransportOp.sleep ms).word.toNat = _ := toNat_longWord 6 ms
  have := ms.isLt
  constructor <;> intro e <;> rw [e] at h <;> simp at h <;> omega

end Sys2Proof.Machine
end

