-- ==== Sys2Proof/Tests/Slice0.lean ====
section
/-! SUPPORT. The package's own tests: words written out from the spec's encodings, ill-formed constructions, single block
steps with results from the spec's vectors (spec/95_test_vectors.md, by the vector's name), and for every statement with
hypotheses a state and operands that meet them. -/

namespace Sys2Proof.Machine.Tests

/-! ## States to test on -/

/-- The next state of an outcome, where there is one. -/
def nextOf : Result → Option State
  | .next s => some s
  | .fault _ => none
  | .refused _ => none

/-- START, CMD 0x3A, DATA 0x05, DELAY 500, END. -/
def smallScript : Memory := [0x100000000, 0x20000003A, 0x300000005, 0x4000001F4, 0xF00000000]

/-- The defaults around the small script. -/
def boot : State := State.construct (Config.defaults smallScript)

/-- The idle block in the STATE `l`, with the words `requests` on offer. -/
def idle (l : Lifecycle) (requests : List RQWord) : State := { boot with lifecycle := l, requests := requests }

/-- INITIALIZE's walk at the index `spc`, with the responses `responses` to come. -/
def walking (spc : Half) (responses : List TRWord) : State :=
  { boot with lifecycle := .scriptRunning, busy := true, held := some .init, spc := spc, responses := responses }

/-- A RESET whose operation `op` is outstanding, with the responses `responses` to come. -/
def awaiting (op : TransportOp) (responses : List TRWord) : State :=
  { boot with
    lifecycle := .resetting, busy := true, held := some .reset, outstanding := some op
    issued := [op.word], responses := responses }

/-! ## Decoding: words written out from the encoding tables (R82, R77, R91; V-D1 to V-D19) -/

theorem test_decode_reset : decodeRQ 0x00000000000000000000000000000001 = some .reset := by decide
theorem test_decode_initialize : decodeRQ 0x00000000000000000000000000000002 = some .init := by decide
theorem test_decode_setWindowColor :
    decodeRQ 0x00000000009F007F00020001ABCD0003 =
      some (.setWindowColor { x0 := 1, y0 := 2, x1 := 127, y1 := 159 } 0xABCD) := by decide
theorem test_decode_setPixel : decodeRQ 0x000000000000000000070005F8000004 = some (.setPixel 5 7 0xF800) := by decide
theorem test_decode_shutdown : decodeRQ 0x00000000000000000000000000000005 = some .shutdown := by decide
theorem test_decode_illegal_requests :
    decodeRQ 0x00000000000000000000000000000101 = none ∧ decodeRQ 0x000000000000000100070005F8000004 = none ∧
      decodeRQ 0x00000001009F007F0000000000000003 = none ∧ decodeRQ 0x00000000000000000000000000000000 = none ∧
      decodeRQ 0x000000000000000000000000000000FF = none ∧ decodeRQ 0x00000000000000000000000000010002 = none := by
  decide
theorem test_decode_start : decodeSW 0x100000000 = some .start := by decide
theorem test_decode_cmd : decodeSW 0x20000003A = some (.cmd 0x3A) := by decide
theorem test_decode_data : decodeSW 0x3000000FF = some (.data 0xFF) := by decide
theorem test_decode_delay : decodeSW 0x4FFFFFFFF = some (.delay 4294967295) := by decide
theorem test_decode_end : decodeSW 0xF00000000 = some .endMark := by decide
theorem test_decode_illegal_steps :
    decodeSW 0x000000000 = none ∧ decodeSW 0x100000001 = none ∧ decodeSW 0x200000100 = none ∧
      decodeSW 0x500000000 = none ∧ decodeSW 0xE00000000 = none ∧ decodeSW 0xF00000001 = none := by decide
theorem test_decode_assertReset : decodeTO 0x100000000 = some .assertReset := by decide
theorem test_decode_releaseReset : decodeTO 0x200000000 = some .releaseReset := by decide
theorem test_decode_selectCmd : decodeTO 0x300000000 = some .selectCmd := by decide
theorem test_decode_selectData : decodeTO 0x400000000 = some .selectData := by decide
theorem test_decode_transfer : decodeTO 0x5000000A5 = some (.transfer 0xA5) := by decide
theorem test_decode_sleep : decodeTO 0x6FFFFFFFF = some (.sleep 4294967295) := by decide

/-- The table's words of 36 bits name no channel (assumption 9). -/
theorem test_table_words :
    decodeTableWord 128 0x000000000000000000070005F8000004 = some (.rqSetPixel 5 7 0xF800) ∧
      decodeTableWord 40 0x20000003A = some (.swCmd 0x3A) ∧ decodeTableWord 40 0xF00000000 = some .swEnd ∧
      decodeTableWord 40 0x5000000A5 = some (.toTransfer 0xA5) ∧ decodeTableWord 40 0x700000000 = none := by decide

/-- A placed word is the next step's instruction: END (R134), ASSERT_RESET (R101) and RESET (R188). -/
theorem test_withFetchWord :
    (nextOf (step (State.reset.withFetchWord 40 0xF00000000))).map (fun t => (t.lifecycle, t.replies)) =
      some (.ready, [0x00000300]) ∧
    (nextOf (step (State.reset.withFetchWord 40 0x100000000))).map (·.issued) = some [0x100000000] ∧
    (nextOf (step (State.reset.withFetchWord 128 1))).map (·.lifecycle) = some .resetting := by decide

/-! ## Ill-formed constructions (R8) -/

theorem test_wf_defaults : (Config.defaults smallScript).wellFormed = true := by decide
theorem test_illformed_width : { Config.defaults smallScript with panelW := 0 }.wellFormed = false := by decide
theorem test_illformed_height : { Config.defaults smallScript with panelH := 0 }.wellFormed = false := by decide
theorem test_illformed_script_empty : (Config.defaults []).wellFormed = false := by decide
theorem test_illformed_script_long : (Config.defaults (List.replicate 65536 0)).wellFormed = false := by
  rw [Config.wellFormed, Config.defaults, Memory.wf, List.length_replicate]
  rfl

/-! ## The status port (R34 to R39) -/

/-- R22, R24 and R220 through STATUS: SCRIPT_RUNNING 2 with COMMAND 1 and ERR 3, SHUTDOWN 4 with DATA 2 and ERR 4. -/
theorem test_status_codes :
    statusRead { boot with lifecycle := .scriptRunning, busMode := .command, lastErr := .usageViolation } 0x0 =
        0x00000352 ∧
      statusRead { boot with lifecycle := .shutdown, busMode := .data, lastErr := .configurationError } 0x0 =
        0x00000464 := by decide

theorem test_status_at_construction :
    statusRead boot 0x0 = 0x00000040 ∧ statusRead boot 0x1 = 0x00A00080 ∧ statusRead boot 0x3 = 0x002C2B2A ∧
      statusRead boot 0x4 = 0x00050002 ∧ statusRead boot 0x5 = 0x0078000A ∧ statusRead boot 0x6 = 0 ∧
      statusRead boot 0xF = 0 := by decide

/-- SHUTDOWN's end state of V-R7, READY with BUSMODE COMMAND before. -/
theorem test_status_shutdown :
    (nextOf (step { idle .ready [5] with busMode := .command })).map (fun t => (statusRead t 0, busOwned t)) =
      some (0x00000014, false) := by decide

/-! ## One block step of each instruction -/

/-- V-R1: RESET in UNINIT. -/
theorem test_reset_accepted :
    (nextOf (step (idle .uninit [1]))).map (fun t => (t.lifecycle, t.pending)) =
      some (.resetting, [.assertReset, .sleep 10, .releaseReset, .sleep 120]) := by decide
/-- V-R3 and V-R8. -/
theorem test_reset_refused :
    (nextOf (step (idle .resetting [1]))).map (·.replies) = some [0x00000103] ∧
      (nextOf (step (idle .shutdown [1]))).map (·.replies) = some [0x00000402] := by decide

theorem test_initialize_accepted :
    (nextOf (step { idle .resetting [2] with spc := 7 })).map (fun t => (t.lifecycle, t.spc, t.busy)) =
      some (.scriptRunning, 1, true) := by decide
/-- V-S3 (a script without START) and V-R19. -/
theorem test_initialize_refused :
    (nextOf (step { State.construct (Config.defaults [0x200000001, 0xF00000000]) with
      lifecycle := .resetting, requests := [2] })).map (fun t => (t.replies, statusRead t 0)) =
        some ([0x00000504], 0x00000445) ∧
      (nextOf (step (idle .ready [2]))).map (·.replies) = some [0x00000303] := by decide

/-- V-R17: the window of one pixel; the first operations are `C(2A)`. -/
theorem test_setWindowColor_accepted :
    (nextOf (step (idle .ready [0x000000000000000000000000FFFF0003]))).map
      (fun t => (t.busy, t.pending.take 2, t.pending.length, t.burst)) =
        some (true, [.selectCmd, .transfer 0x2A], 22, some { x := 0, y := 0, k := 0 }) := by decide
/-- V-R18 (inverted) and V-L6 (RESETTING). -/
theorem test_setWindowColor_refused :
    (nextOf (step (idle .ready [0x00000000000000040000000500000003]))).map (·.replies) = some [0x00000303] ∧
      (nextOf (step (idle .resetting [3]))).map (·.replies) = some [0x00000102] := by decide

/-- V-R11: the last pixel of the panel, its window one past the panel. -/
theorem test_setPixel_accepted :
    (nextOf (step (idle .ready [0x0000000000000000009F007F001F0004]))).map (fun t => bytesOf t.pending) =
      some [0x2A, 0x00, 0x7F, 0x00, 0x80, 0x2B, 0x00, 0x9F, 0x00, 0xA0, 0x2C, 0x00, 0x1F, 0x00] := by decide
/-- V-R12 and V-R14. -/
theorem test_setPixel_refused :
    (nextOf (step (idle .ready [0x00000000000000000000008000000004]))).map (·.replies) = some [0x00000303] ∧
      (nextOf (step (idle .faulted [0x00000000000000000000008000000004]))).map (·.replies) = some [0x00000502] := by
  decide

/-- V-R5 and V-R9. -/
theorem test_shutdown_refused :
    (nextOf (step (idle .uninit [5]))).map (fun t => (t.replies, t.owned)) = some ([0x00000003], true) ∧
      (nextOf (step (idle .faulted [5]))).map (fun t => (t.replies, t.owned)) = some ([0x00000502], true) := by decide

/-- V-R10 and V-R16: illegal words. -/
theorem test_illegal_request :
    (nextOf (step (idle .faulted [6]))).map (·.replies) = some [0x00000505] ∧
      (nextOf (step (idle .shutdown [0x000000000000000100070005F8000004]))).map (·.replies) = some [0x00000405] := by
  decide

theorem test_start : (nextOf (exec .swStart (walking 0 []))).map (fun t => (t.spc, t.issued)) = some (1, []) := by decide
/-- R130's example `START, END`, right after INITIALIZE's acceptance: END is next, SPC 1. -/
theorem test_start_end :
    (nextOf (step { walking 1 [] with config := Config.defaults [0x100000000, 0xF00000000] })).map
      (fun t => (t.lifecycle, t.spc, t.issued)) = some (.ready, 1, []) := by decide
theorem test_cmd :
    (nextOf (step (walking 1 []))).map (fun t => (t.spc, t.issued, t.pending)) =
      some (1, [0x300000000], [.transfer 0x3A]) := by decide
theorem test_data :
    (nextOf (step (walking 2 []))).map (fun t => (t.spc, t.issued, t.pending)) =
      some (2, [0x400000000], [.transfer 0x05]) := by decide
/-- V-L12. -/
theorem test_delay :
    (nextOf (step (walking 3 []))).map (fun t => (t.issued, t.pending)) = some ([0x6000001F4], []) := by decide
/-- V-S2's answer: STATE READY, SPC at the end index. -/
theorem test_end :
    (nextOf (step (walking 4 []))).map (fun t => (t.lifecycle, t.spc, t.replies)) = some (.ready, 4, [0x00000300]) := by
  decide

/-- V-F10: an ECHO of 0xFF with FAIL = 0. -/
theorem test_assertReset :
    (nextOf (exec .toAssertReset boot)).map (·.issued) = some [0x100000000] ∧
      (nextOf (step (awaiting .assertReset [0xFF00]))).map (fun t => (t.busMode, t.failed)) = some (.none, false) := by
  decide
/-- V-F11: the bits 7 to 1 are ignored. -/
theorem test_releaseReset :
    (nextOf (exec .toReleaseReset boot)).map (·.issued) = some [0x200000000] ∧
      (nextOf (step (awaiting .releaseReset [0x00FE]))).map (·.failed) = some false := by decide
/-- V-F4's select, and V-F5: a failed select leaves BUSMODE NONE. -/
theorem test_selectCmd :
    (nextOf (step (awaiting .selectCmd [0]))).map (·.busMode) = some .command ∧
      (nextOf (step { awaiting .selectCmd [1] with busMode := .data })).map (fun t => (t.busMode, t.failed)) =
        some (.none, true) := by decide
theorem test_selectData : (nextOf (step (awaiting .selectData [0]))).map (·.busMode) = some .data := by decide
/-- V-F6: a failed TRANSFER leaves BUSMODE. -/
theorem test_transfer :
    (nextOf (exec (.toTransfer 0x9F) boot)).map (·.issued) = some [0x50000009F] ∧
      (nextOf (step { awaiting (.transfer 0x05) [1] with busMode := .data })).map (fun t => (t.busMode, t.failed)) =
        some (.data, true) := by decide
/-- V-F9: a SLEEP of 0 is issued. -/
theorem test_sleep : (nextOf (exec (.toSleep 0) boot)).map (·.issued) = some [0x600000000] := by decide

/-- V-S17's answer to a failed operation: TRANSPORT_FAILURE, STATE FAULTED. -/
theorem test_transport_failure :
    (nextOf (step { walking 3 [] with failed := true })).map (fun t => (t.replies, t.lifecycle, t.spc)) =
      some ([0x00000501], .faulted, 3) := by decide

/-! ## Operand forms and sequences -/

/-- V-W5, row by row. -/
theorem test_validWindow :
    [(0, 0, 0, 0), (127, 159, 127, 159), (0, 0, 127, 159), (1, 0, 0, 0), (0, 1, 0, 0), (0, 0, 128, 0), (0, 0, 0, 160),
      (0, 0, 65535, 65535)].map
        (fun r : Half × Half × Half × Half =>
          validWindow boot.config { x0 := r.1, y0 := r.2.1, x1 := r.2.2.1, y1 := r.2.2.2 }) =
      [true, true, true, false, false, false, false, false] := by decide

/-- V-W6: the pixels of a 2 by 2 window in order. -/
theorem test_pixel_order :
    (pixelsOf { x0 := 10, y0 := 20, x1 := 11, y1 := 21 }).map (fun p => (p.x, p.y)) =
      [(10, 20), (11, 20), (10, 21), (11, 21)] := by decide

/-- V-W4: the sum with the offset wraps. -/
theorem test_offset_wraps : calibratedColumn { boot.config with colOffset := 2 } 65534 = 0 := by decide

/-- V-S6, V-S9, V-S10, V-S12, V-S16 and V-S19: the well-formedness check. -/
theorem test_wellFormedScript :
    wellFormedScript [0x100000000, 0x100000000, 0xF00000000] = false ∧
      wellFormedScript [0x100000000, 0x200000001, 0xF00000001, 0xF00000000] = false ∧
      wellFormedScript [0x100000000, 0x200000001, 0xF00000000, 0x000000000, 0x712345678] = true ∧
      wellFormedScript [0x100000000] = false ∧
      wellFormedScript [0x100000000, 0xF00000000, 0xF00000000] = true ∧
      wellFormedScript [0xF00000000, 0x100000000, 0xF00000000] = false := by decide

/-- The walk of the small script, with the script index of each operation. -/
theorem test_walk :
    walkOps smallScript = [.selectCmd, .transfer 0x3A, .selectData, .transfer 0x05, .sleep 500] ∧
      walkIndices smallScript = [1, 1, 2, 2, 3] ∧ endIndex smallScript = 4 := by decide

/-- R96: REG 0x3A, 0x05. -/
theorem test_reg : (expandReg 0x3A [0x05]).map ScriptStep.word = [0x20000003A, 0x300000005] := by decide

/-- R98: CLEAR 0 on the default panel is V-L7's word. -/
theorem test_clear : (expandClear boot.config 0).word = 0x00000000009F007F0000000000000003 := by decide

/-! ## Witnesses: the hypotheses of every statement are met -/

theorem witness_StepRunsDecodedInstruction :
    ((idle .uninit [1]).busy = false ∧ (idle .uninit [1]).requests = 1 :: [] ∧
      decode (.rq (1 : RQWord)) = some .rqReset) ∧
    ((awaiting .selectCmd []).busy = true ∧ (awaiting .selectCmd []).outstanding = some .selectCmd) ∧
    (∃ s : State, s.busy = true ∧ s.outstanding = none ∧ s.failed = false ∧ s.pending = [.transfer 0x3A]) ∧
    ((walking 1 []).busy = true ∧ (walking 1 []).outstanding = none ∧ (walking 1 []).failed = false ∧
      (walking 1 []).pending = [] ∧ (walking 1 []).held = some .init ∧
      scriptRead (walking 1 []).config.script (walking 1 []).spc = some 0x20000003A ∧
      decode (.sw 0x20000003A) = some (.swCmd 0x3A)) :=
  ⟨by decide, by decide, ⟨{ walking 1 [] with pending := [.transfer 0x3A] }, by decide⟩, by decide⟩

/-- A burst over the pixels (3, 4) and (4, 4), the pixel `p` next. -/
def bursting (p : PixelCounters) : State :=
  { boot with
    lifecycle := .ready, busy := true, burst := some p
    held := some (.setWindowColor { x0 := 3, y0 := 4, x1 := 4, y1 := 4 } 0x1234) }

/-- The pixel clause of StepRunsDecodedInstruction, at the first and at the last pixel of a burst: their high byte's select is
issued, and the no-op command follows the last pixel alone (R155). -/
theorem witness_StepRunsDecodedInstruction_pixel :
    ∀ p ∈ [({ x := 3, y := 4, k := 0 } : PixelCounters), { x := 4, y := 4, k := 1 }],
      (bursting p).busy = true ∧ (bursting p).outstanding = none ∧ (bursting p).failed = false ∧
        (bursting p).pending = [] ∧ (bursting p).burst = some p ∧
        (bursting p).held = some (.setWindowColor { x0 := 3, y0 := 4, x1 := 4, y1 := 4 } 0x1234) ∧
        (nextOf (step (bursting p))).map (fun t => (t.issued, t.pending)) =
          some ([0x400000000],
            [.transfer 0x12, .selectData, .transfer 0x34] ++
              (if p.k = 1 then [.selectCmd, .transfer 0x00] else [])) := by decide

theorem witness_EncodeOfDecode :
    decode (.rq 0x000000000000000000070005F8000004) = some (.rqSetPixel 5 7 0xF800) ∧
      decode (.sw 0x4FFFFFFFF) = some (.swDelay 4294967295) ∧ decode (.op 0x5000000FF) = some (.toTransfer 0xFF) := by
  decide

/-- ResetAcceptance, InitializeAcceptance, SetWindowColorAcceptance, SetPixelAcceptance and ShutdownAcceptance: BUSY = 0 in
every STATE. -/
theorem witness_Acceptance (l : Lifecycle) : (idle l []).busy = false := rfl

/-- InitializeAcceptance's two arms in RESETTING: a well-formed and a malformed script. -/
theorem witness_InitializeAcceptance_arms :
    wellFormedScript (idle .resetting []).config.script = true ∧ wellFormedScript State.reset.config.script = false := by
  decide

/-- SetWindowColorAcceptance's two arms in READY, where they meet: the panel's last column and the one after it. -/
theorem witness_SetWindowColorAcceptance_arms :
    ((127 : Half).toNat ≤ (127 : Half).toNat ∧ (127 : Half).toNat < (idle .ready []).config.panelW.toNat) ∧
      ¬(128 : Half).toNat < (idle .ready []).config.panelW.toNat ∧
      (159 : Half).toNat < (idle .ready []).config.panelH.toNat ∧
      ¬(160 : Half).toNat < (idle .ready []).config.panelH.toNat := by decide

theorem witness_IllegalWordsAnswered :
    (idle .faulted [6]).busy = false ∧ (idle .faulted [6]).requests = 6 :: [] ∧ decodeRQ 6 = none := by decide

theorem witness_TerminalStatesAnswerNotReady :
    ((idle .faulted [5]).busy = false ∧ (idle .faulted [5]).requests = 5 :: [] ∧ decodeRQ 5 = some .shutdown ∧
      (idle .faulted [5]).lifecycle = .faulted) ∧
    ((idle .shutdown [5]).busy = false ∧ (idle .shutdown [5]).requests = 5 :: [] ∧
      (idle .shutdown [5]).lifecycle = .shutdown) := by decide

theorem witness_PixelRequestsNeedReady :
    ((idle .uninit [3]).busy = false ∧ (idle .uninit [3]).requests = 3 :: [] ∧
      decode (.rq (3 : RQWord)) = some (.rqSetWindowColor 0 0 0 0 0) ∧ (idle .uninit [3]).lifecycle ≠ .ready) ∧
    ((idle .shutdown [4]).busy = false ∧ (idle .shutdown [4]).requests = 4 :: [] ∧
      decode (.rq (4 : RQWord)) = some (.rqSetPixel 0 0 0) ∧ (idle .shutdown [4]).lifecycle ≠ .ready) := by decide

/-- RefusalsIssueNothing's two clauses: a usage violation, and a configuration error (`State.reset`'s script is
malformed). -/
theorem witness_RefusalsIssueNothing :
    (∃ t, step (idle .ready [1]) = .next t ∧ t.busy = false ∧ t.lastErr = .usageViolation) ∧
      ∃ t, step { State.reset with lifecycle := .resetting, requests := [2] } = .next t ∧ t.busy = false ∧
        t.lastErr = .configurationError :=
  ⟨⟨_, rfl, rfl, rfl⟩, ⟨_, rfl, rfl, rfl⟩⟩

theorem witness_NoRequestWhileBusy : ∃ t, (walking 1 []).busy = true ∧ step (walking 1 []) = .next t := ⟨_, rfl, rfl⟩

theorem witness_StartOnlyAdvances :
    (idle .resetting [2]).busy = false ∧ (idle .resetting [2]).lifecycle = .resetting ∧
      wellFormedScript (idle .resetting [2]).config.script = true := by decide

theorem witness_CmdSendsCommand :
    boot.outstanding = none ∧ (walking 1 [0, 0]).busy = true ∧ (walking 1 [0, 0]).outstanding = none ∧
      (walking 1 [0, 0]).failed = false ∧ (walking 1 [0, 0]).pending = [] ∧ (walking 1 [0, 0]).held = some .init ∧
      scriptRead (walking 1 [0, 0]).config.script (walking 1 [0, 0]).spc = some 0x20000003A ∧
      decode (.sw 0x20000003A) = some (.swCmd 0x3A) ∧ (walking 1 [0, 0]).responses = 0 :: 0 :: [] ∧
      (0 : TRWord).getLsbD 0 = false := by decide

theorem witness_DataSendsData :
    (walking 2 [0, 0]).busy = true ∧ (walking 2 [0, 0]).outstanding = none ∧ (walking 2 [0, 0]).failed = false ∧
      (walking 2 [0, 0]).pending = [] ∧ (walking 2 [0, 0]).held = some .init ∧
      scriptRead (walking 2 [0, 0]).config.script (walking 2 [0, 0]).spc = some 0x300000005 ∧
      decode (.sw 0x300000005) = some (.swData 0x05) ∧ (walking 2 [0, 0]).responses = 0 :: 0 :: [] := by decide

theorem witness_DelaySleeps :
    (walking 3 [0xFFFE]).busy = true ∧ (walking 3 [0xFFFE]).outstanding = none ∧ (walking 3 [0xFFFE]).failed = false ∧
      (walking 3 [0xFFFE]).pending = [] ∧ (walking 3 [0xFFFE]).held = some .init ∧
      scriptRead (walking 3 [0xFFFE]).config.script (walking 3 [0xFFFE]).spc = some 0x4000001F4 ∧
      decode (.sw 0x4000001F4) = some (.swDelay 500) ∧ (walking 3 [0xFFFE]).responses = 0xFFFE :: [] ∧
      (0xFFFE : TRWord).getLsbD 0 = false := by decide

theorem witness_TransportOperationsIssue : boot.outstanding = none ∧ (walking 1 []).outstanding = none := by decide

/-- TransportOperationsSucceed and OnlyFailBitIsRead (the responses 0xFFFE and 0). -/
theorem witness_TransportOperationsSucceed :
    (awaiting .selectData [0xFFFE]).outstanding = some .selectData ∧
      (awaiting .selectData [0xFFFE]).responses = 0xFFFE :: [] ∧ (0xFFFE : TRWord).getLsbD 0 = false ∧
      (awaiting .selectData [0xFFFE]).busy = true ∧ (0xFFFE : TRWord).getLsbD 0 = (0 : TRWord).getLsbD 0 ∧
      (nextOf (step (awaiting .selectData [0xFFFE]))).isSome = true := by decide

theorem witness_TransportOperationsFail :
    (awaiting .selectData [1]).outstanding = some .selectData ∧ (awaiting .selectData [1]).responses = 1 :: [] ∧
      (1 : TRWord).getLsbD 0 = true := by decide

theorem witness_TransportFailureEntry :
    ({ walking 3 [] with failed := true } : State).busy = true ∧
      ({ walking 3 [] with failed := true } : State).outstanding = none ∧
      ({ walking 3 [] with failed := true } : State).failed = true := by decide

theorem witness_HungTransportWaitsForEver :
    (awaiting .releaseReset []).busy = true ∧ (awaiting .releaseReset []).outstanding = some .releaseReset ∧
      (awaiting .releaseReset []).responses = [] := by decide

/-- ConstructionIsConsistent's hypothesis, and BootOrderReachesReady's: a legal configuration with a well-formed script and
nine responses. -/
theorem witness_ConstructionIsConsistent :
    (Config.defaults smallScript).wellFormed = true ∧ wellFormedScript smallScript = true ∧
      allOk (List.replicate 9 0) = true ∧ (List.replicate 9 (0 : TRWord)).length = 4 + (walkOps smallScript).length := by
  decide

/-- A consistent state in the middle of the walk: ConsistentKept, ConsistentNeverStops, LifecycleTransitions,
SpcOnlyRestartsOrAdvances, StepsAfterEndHaveNoEffect and RgbOrderHasNoEffect. -/
theorem witness_ConsistentKept :
    Consistent (walking 1 []) ∧ ∃ t, step (walking 1 []) = .next t ∧ t ≠ walking 1 [] := by
  refine ⟨⟨by decide, by decide, by decide, fun _ => ?_, fun h => absurd h (by decide)⟩, _, rfl, by decide⟩
  exact ⟨rfl, rfl, by decide, by decide, by decide, by decide⟩

/-- LifecycleTransitions' second clause: the walk at END, answered READY. -/
theorem witness_LifecycleTransitions :
    Consistent (walking 4 []) ∧ ∃ t, step (walking 4 []) = .next t ∧ (walking 4 []).lifecycle ≠ .ready ∧
      t.lifecycle = .ready := by
  refine ⟨⟨by decide, by decide, by decide, fun _ => ?_, fun h => absurd h (by decide)⟩, _, rfl, by decide, rfl⟩
  exact ⟨rfl, rfl, by decide, by decide, by decide, by decide⟩

/-- SpcOnlyRestartsOrAdvances' three cases: the acceptance, a receipt in the walk, and a step that leaves SPC. -/
theorem witness_SpcOnlyRestartsOrAdvances :
    Consistent (idle .resetting [2]) ∧ (nextOf (step (idle .resetting [2]))).map (·.spc) = some 1 ∧
      Consistent { walking 3 [0] with outstanding := some (.sleep 500) } ∧
      (nextOf (step { walking 3 [0] with outstanding := some (.sleep 500) })).map (·.spc) = some 4 ∧
      Consistent (walking 1 []) ∧ (nextOf (step (walking 1 []))).map (·.spc) = some 1 := by
  refine ⟨⟨by decide, by decide, by decide, fun h => absurd h (by decide), fun _ => ⟨?_, by decide⟩⟩, by decide,
    ⟨by decide, by decide, by decide, fun _ => ?_, fun h => absurd h (by decide)⟩, by decide, witness_ConsistentKept.1,
    by decide⟩
  · exact ⟨rfl, rfl, rfl, rfl, rfl⟩
  · exact ⟨rfl, rfl, by decide, by decide, by decide, by decide⟩

theorem witness_WalkMeetsOnlyLegalSteps :
    (wellFormedScript smallScript = true ∧ 0 ≤ endIndex smallScript ∧ 4 ≤ endIndex smallScript) ∧
      Consistent (walking 4 []) ∧ (walking 4 []).busy = true ∧ (walking 4 []).held = some .init :=
  ⟨by decide, witness_LifecycleTransitions.1, rfl, rfl⟩

/-- StepsAfterEndHaveNoEffect: END stands below the script's length, also where the script is malformed. -/
theorem witness_StepsAfterEndHaveNoEffect :
    endIndex (walking 1 []).config.script < (walking 1 []).config.script.length ∧
      endIndex [0x100000000, 0x000000000, 0xF00000000] < [(0x100000000 : SWWord), 0x000000000, 0xF00000000].length ∧
      wellFormedScript [0x100000000, 0x000000000, 0xF00000000] = false := by decide

theorem witness_ConfigurationNeverChanges :
    (∃ t, exec .rqReset boot = .next t) ∧ ∃ t, step (walking 4 []) = .next t := ⟨⟨_, rfl⟩, ⟨_, rfl⟩⟩

theorem witness_TerminalStatesAreLeftByNothing :
    ∃ t, (idle .faulted [1, 6]).busy = false ∧ (idle .faulted [1, 6]).lifecycle = .faulted ∧
      runFor 3 (idle .faulted [1, 6]) = .next t ∧ t.replies = [0x00000502, 0x00000505] := ⟨_, rfl, rfl, rfl, by decide⟩

/-- The walk inside CMD 0x3A: its select is answered, its TRANSFER still to be issued. -/
def insideCmd : State :=
  { walking 1 [0] with
    pending := [.transfer 0x3A], issued := [0x300000000], answered := [0], busMode := .command }

/-- OneOperationAtATime, BusModeMirrorsTrace, TransfersFollowSelectsKept and IssuedWordsAreLegal. -/
theorem witness_TraceStatements :
    (insideCmd.busy = false → insideCmd.outstanding = none) ∧ TraceInStep insideCmd ∧ PendingFramed insideCmd ∧
      TransfersFollowSelects insideCmd ∧ insideCmd.busMode = modeOfTrace (insideCmd.issued.zip insideCmd.answered) ∧
      (∀ w ∈ insideCmd.issued, mayIssue w = true) ∧
      ∃ t, step insideCmd = .next t ∧ t.issued = [0x300000000, 0x50000003A] := by
  refine ⟨fun _ => rfl, ⟨rfl, fun op h => nomatch h⟩, fun _ => by decide, ?_, by decide, ?_, _, rfl, by decide⟩
  · intro i w h hw
    rcases i with _ | i
    · cases h
      exact absurd hw (by decide)
    · cases h
  · intro w hw
    cases hw with
    | head => decide
    | tail _ h => cases h

theorem witness_ResponseWordsAreLegal :
    (∀ w ∈ (idle .ready [1]).replies, w.extractLsb' 11 21 = 0 ∧ (w.extractLsb' 0 8).toNat ≤ 5 ∧
        (w.extractLsb' 8 3).toNat ≤ 5) ∧ ∃ t, step (idle .ready [1]) = .next t ∧ t.replies = [0x00000303] :=
  ⟨fun _ h => (nomatch h), _, rfl, by decide⟩

/-- LastErrMirrorsResponses and OneResponsePerRequest: an answer in the accepting step, and one at the end of a body. -/
theorem witness_LastErrMirrorsResponses :
    (∃ t, step (idle .ready [1]) = .next t ∧ t.requests ≠ (idle .ready [1]).requests) ∧
      ∃ t, (walking 4 []).busy = true ∧ step (walking 4 []) = .next t ∧ t.busy = false :=
  ⟨⟨_, rfl, by decide⟩, ⟨_, rfl, rfl, rfl⟩⟩

theorem witness_OwnershipReleasedOnlyByShutdown :
    ∃ t, (idle .ready [5, 1]).busy = false ∧ (idle .ready [5, 1]).lifecycle = .ready ∧
      (idle .ready [5, 1]).requests = 0x00000000000000000000000000000005 :: [1] ∧
      step (idle .ready [5, 1]) = .next t ∧ busOwned t = false := ⟨_, rfl, rfl, rfl, rfl, rfl⟩

theorem witness_PixelsAreRowMajor :
    ((0 : Half).toNat ≤ (65534 : Half).toNat ∧ (0 : Half).toNat ≤ (0 : Half).toNat) ∧
      (1 + 1 < windowWidth { x0 := 10, y0 := 20, x1 := 11, y1 := 21 } *
        windowHeight { x0 := 10, y0 := 20, x1 := 11, y1 := 21 }) ∧
      3 + 1 = windowWidth { x0 := 10, y0 := 20, x1 := 11, y1 := 21 } *
        windowHeight { x0 := 10, y0 := 20, x1 := 11, y1 := 21 } := by decide

/-- The idle block in the STATE `l`, with the request `r` on offer and the responses `responses` to come. -/
def offered (l : Lifecycle) (r : Request) (responses : List TRWord) : State :=
  { idle l [r.word] with responses := responses }

/-- SuccessfulRequestRuns, for each of the four requests that have a body, with a response for each operation. -/
theorem witness_SuccessfulRequestRuns :
    ∀ e ∈ [(Lifecycle.uninit, Request.reset, 4), (.resetting, .init, 5),
        (.ready, .setWindowColor { x0 := 3, y0 := 4, x1 := 3, y1 := 4 } 0x1234, 28), (.ready, .setPixel 127 159 1, 28)],
      (offered e.1 e.2.1 (List.replicate e.2.2 0)).busy = false ∧
        (offered e.1 e.2.1 (List.replicate e.2.2 0)).config.wellFormed = true ∧ e.2.1 ≠ .shutdown ∧
        (offered e.1 e.2.1 (List.replicate e.2.2 0)).requests = e.2.1.word :: [] ∧
        checkRequest e.2.1 (offered e.1 e.2.1 (List.replicate e.2.2 0)) = none ∧
        (offered e.1 e.2.1 (List.replicate e.2.2 0)).responses = List.replicate e.2.2 0 ++ [] ∧
        allOk (List.replicate e.2.2 0) = true ∧
        (List.replicate e.2.2 (0 : TRWord)).length =
          (bodyOps (offered e.1 e.2.1 (List.replicate e.2.2 0)).config e.2.1).length := by decide

/-- FailedRequestRuns: RESET with a failed RELEASE_RESET (the spec's program P6), INITIALIZE with its first operation failed
(V-S18), and SET_PIXEL with its last operation failed. -/
theorem witness_FailedRequestRuns :
    ∀ e ∈ [(Lifecycle.uninit, Request.reset, 2), (.resetting, .init, 0), (.ready, .setPixel 127 159 1, 27)],
      (offered e.1 e.2.1 (List.replicate e.2.2 0 ++ [1])).busy = false ∧
        (offered e.1 e.2.1 (List.replicate e.2.2 0 ++ [1])).config.wellFormed = true ∧ e.2.1 ≠ .shutdown ∧
        (offered e.1 e.2.1 (List.replicate e.2.2 0 ++ [1])).requests = e.2.1.word :: [] ∧
        checkRequest e.2.1 (offered e.1 e.2.1 (List.replicate e.2.2 0 ++ [1])) = none ∧
        (offered e.1 e.2.1 (List.replicate e.2.2 0 ++ [1])).responses = List.replicate e.2.2 0 ++ 1 :: [] ∧
        allOk (List.replicate e.2.2 0) = true ∧ trFail 1 = true ∧
        (List.replicate e.2.2 (0 : TRWord)).length <
          (bodyOps (offered e.1 e.2.1 (List.replicate e.2.2 0 ++ [1])).config e.2.1).length := by decide

/-- UnansweredRequestNeverEnds: RESET with three of four responses. -/
theorem witness_UnansweredRequestNeverEnds :
    (offered .uninit .reset [0, 0, 0]).busy = false ∧ (offered .uninit .reset [0, 0, 0]).config.wellFormed = true ∧
      (offered .uninit .reset [0, 0, 0]).requests = Request.word .reset :: [] ∧
      checkRequest .reset (offered .uninit .reset [0, 0, 0]) = none ∧
      allOk (offered .uninit .reset [0, 0, 0]).responses = true ∧
      (offered .uninit .reset [0, 0, 0]).responses.length <
        (bodyOps (offered .uninit .reset [0, 0, 0]).config .reset).length := by decide

theorem witness_PseudoInstructionsExpand : boot.config.wellFormed = true := by decide

end Sys2Proof.Machine.Tests
end

/-! PROOFS. What a block step reads of SCRIPT and RGB_ORDER (R11, R51): RGB_ORDER nowhere, and of SCRIPT its well-formedness,
at INITIALIZE's checks, and the word at SPC, in the walk. So a step commutes with a change of the two parameters that keeps
what it reads. -/

namespace Sys2Proof.Machine

/-- `s` with another SCRIPT and another RGB_ORDER; every other parameter stays. -/
def State.reconfigured (m : Memory) (b : Bool) (s : State) : State :=
  { s with config := { s.config with script := m, rgbOrder := b } }

variable {s t : State} {m : Memory} {b : Bool}

/-! ## The shared operations -/

theorem endOfGroup_reconfigured : endOfGroup (s.reconfigured m b) = (endOfGroup s).reconfigured m b :=
  (apply_ite (State.reconfigured m b) (s.pending = [] ∧ s.held = some .init) (nextScriptStep s) s).symm

theorem receiveResponse_reconfigured (op : TransportOp) (tr : TRWord) (rest : List TRWord) :
    receiveResponse op tr rest (s.reconfigured m b) = (receiveResponse op tr rest s).reconfigured m b := by
  cases hf : trFail tr
  · simp only [receiveResponse, hf, Bool.false_eq_true, if_false, ← endOfGroup_reconfigured]; rfl
  · simp only [receiveResponse, hf, if_true]; rfl

theorem loadPixel_reconfigured : loadPixel (s.reconfigured m b) = (loadPixel s).reconfigured m b := by
  unfold loadPixel
  simp only [State.reconfigured]
  split <;> rfl

/-- INITIALIZE's checks read the well-formedness of SCRIPT; the other requests' checks read neither parameter. -/
theorem checkRequest_reconfigured (hm : wellFormedScript m = wellFormedScript s.config.script) (r : Request) :
    checkRequest r (s.reconfigured m b) = checkRequest r s := by
  cases r with
  | init => simp only [checkRequest, checkInitialize, State.reconfigured, hm]
  | _ => rfl

/-- The beginning of no body reads SCRIPT or RGB_ORDER. -/
theorem beginRequest_reconfigured (r : Request) :
    beginRequest r (s.reconfigured m b) = (beginRequest r s).reconfigured m b := by
  cases r <;> rfl

/-! ## The block step -/

/-- A legal request on offer: the same check decides, between the same refusal and the same beginning (R181). -/
theorem step_request_reconfigured {rq : RQWord} {rest : List RQWord} {r : Request}
    (hm : wellFormedScript m = wellFormedScript s.config.script) (hb : s.busy = false) (hr : s.requests = rq :: rest)
    (hd : decodeRQ rq = some r) :
    step (s.reconfigured m b) =
      .next (match checkRequest r s with
        | some e => (raiseError e { s with requests := rest }).reconfigured m b
        | none => (beginRequest r { s with requests := rest }).reconfigured m b) := by
  have hc : checkRequest r { s.reconfigured m b with requests := rest } = checkRequest r s := by
    rw [checkRequest_requests, checkRequest_reconfigured hm]
  rw [step_request (s := s.reconfigured m b) hb hr hd, exec_request (by exact hb), hc, ← beginRequest_reconfigured]
  rfl

/-- The walk runs the script step at SPC, where the other script has the same word there (R126). -/
theorem step_script_reconfigured {w : SWWord} {st : ScriptStep} (hb : s.busy = true) (ho : s.outstanding = none)
    (hf : s.failed = false) (hp : s.pending = []) (hh : s.held = some .init) (hw : scriptRead m s.spc = some w)
    (hd : decodeSW w = some st) : step (s.reconfigured m b) = exec st.instr (s.reconfigured m b) :=
  step_script (s := s.reconfigured m b) hb ho hf (by rw [loadPixel_of_init (by exact hh)]; exact hp) hh hw hd

/-- A block step under another SCRIPT and another RGB_ORDER is the same, where the scripts are alike in being well formed
and a walk finds the same word at SPC. -/
theorem step_reconfigured (hm : wellFormedScript m = wellFormedScript s.config.script)
    (hw : s.busy = true → s.held = some .init → scriptRead m s.spc = scriptRead s.config.script s.spc)
    (h : step s = .next t) : step (s.reconfigured m b) = .next (t.reconfigured m b) := by
  cases blockStep_of_step h with
  | noRequest hb hr => exact step_noRequest hb hr
  | illegal rq rest hb hr hd => exact step_illegal (s := s.reconfigured m b) hb hr hd
  | refused rq rest r e hb hr hd hc => rw [step_request_reconfigured hm hb hr hd, hc]
  | accepted rq rest r hb hr hd hc => rw [step_request_reconfigured hm hb hr hd, hc]
  | waiting op hb ho hr =>
    rw [step_outstanding (s := s.reconfigured m b) hb ho, emitOp_wait (s := s.reconfigured m b) ho hr]
  | receive op tr rest hb ho hr =>
    rw [step_outstanding (s := s.reconfigured m b) hb ho, emitOp_receive (s := s.reconfigured m b) ho hr,
      receiveResponse_reconfigured]
  | failure hb ho hf => exact step_failed (s := s.reconfigured m b) hb ho hf
  | issue op ops hb ho hf hp =>
    have hl : loadPixel s = s := loadPixel_of_pending (by simp [hp])
    rw [step_issue (s := s.reconfigured m b) hb ho hf (by rw [loadPixel_reconfigured, hl]; exact hp),
      loadPixel_reconfigured, hl]
    rfl
  | pixel p w color op ops hb ho hf hp hu hh hg =>
    have hl := loadPixel_pixel hp hu hh
    rw [step_issue (s := s.reconfigured m b) hb ho hf (by rw [loadPixel_reconfigured, hl]; exact hg),
      loadPixel_reconfigured, hl]
    rfl
  | start w hb ho hf hp hh hr hd =>
    exact step_script_reconfigured hb ho hf hp hh ((hw hb hh).trans hr) hd
  | endMark w hb ho hf hp hh hr hd =>
    exact step_script_reconfigured hb ho hf hp hh ((hw hb hh).trans hr) hd
  | scriptStep w st op ops hb ho hf hp hh hr hd hs =>
    rw [step_script_reconfigured hb ho hf hp hh ((hw hb hh).trans hr) hd, exec_step_group hs,
      emitGroup_issue (s := s.reconfigured m b) ho]
    rfl
  | finished hb ho hf hp hl hh =>
    exact step_finish (s := s.reconfigured m b) hb ho hf (by rw [loadPixel_reconfigured, hl]; exact hp) hh

end Sys2Proof.Machine

namespace Sys2Proof

open Machine

/-- Settles O49: RGB_ORDER is changed and SCRIPT kept, so what a block step reads of the two is the same. -/
theorem rgbOrderHasNoEffect : Obligations.RgbOrderHasNoEffect := by
  intro s t b h
  have ht : t.reconfigured s.config.script b = { t with config := { t.config with rgbOrder := b } } := by
    rw [← step_script_eq h]; rfl
  rw [← ht]
  exact step_reconfigured rfl (fun _ _ => rfl) h

end Sys2Proof

/-! PROOFS. The registers of 10_state.md over a block step: the configuration is never written (R33), STATE makes the moves of
the lifecycle (R23), LAST_ERR is written with a response (R28); and the fields of the status read port (R34 to R38). -/

namespace Sys2Proof.Machine

variable {s t : State}

/-! ## The configuration (R33) -/

/-- The beginning of no body writes the configuration. -/
@[simp] theorem beginRequest_config (r : Request) (s : State) : (beginRequest r s).config = s.config := by
  cases r <;> rfl

/-- No block step of `emit` writes the configuration (R100). -/
theorem emitOp_config {op : TransportOp} (h : emitOp op s = .next t) : t.config = s.config := by
  unfold emitOp at h
  split at h
  · cases h; exact issueOp_config op s
  · split at h
    · split at h
      · cases h; rfl
      · cases h; exact receiveResponse_config ..
    · cases h; rfl

/-- The start of a script step's operations does not write the configuration (R126). -/
theorem emitGroup_config {op : TransportOp} {ops : List TransportOp} (h : emitGroup op ops s = .next t) :
    t.config = s.config := by
  unfold emitGroup at h
  split at h
  · cases h; rfl
  · cases h; rfl

/-- No request's acceptance step writes the configuration (R181). -/
theorem exec_request_config {r : Request} (h : exec r.instr s = .next t) : t.config = s.config := by
  cases hb : s.busy with
  | true => rw [exec_request_busy hb] at h; cases h; rfl
  | false =>
    rw [exec_request hb] at h
    cases h
    split
    · exact raiseError_config ..
    · exact beginRequest_config ..

/-- No instruction writes the configuration: requests, script steps and transport operations in turn. -/
theorem exec_config {i : Instr} (h : exec i s = .next t) : t.config = s.config := by
  cases i with
  | rqReset => exact exec_request_config (r := .reset) h
  | rqInitialize => exact exec_request_config (r := .init) h
  | rqSetWindowColor x0 y0 x1 y1 color =>
    exact exec_request_config (r := .setWindowColor { x0 := x0, y0 := y0, x1 := x1, y1 := y1 } color) h
  | rqSetPixel x y color => exact exec_request_config (r := .setPixel x y color) h
  | rqShutdown => exact exec_request_config (r := .shutdown) h
  | swStart => cases h; rfl
  | swEnd => cases h; rfl
  | swCmd | swData | swDelay => exact emitGroup_config h
  | toAssertReset | toReleaseReset | toSelectCmd | toSelectData | toTransfer | toSleep => exact emitOp_config h

/-- No block step writes the configuration. -/
theorem step_config (h : step s = .next t) : t.config = s.config := by
  cases blockStep_of_step h with
  | accepted rq rest r => exact beginRequest_config ..
  | _ => simp

/-! ## The moves of STATE (R23) -/

/-- What a block step from `s` can write to STATE, and the block step that does it: the acceptance of RESET, INITIALIZE
and SHUTDOWN, the refusal of a malformed script, the entry of a transport failure, and END. -/
inductive LifecycleMove (s : State) : Lifecycle → Prop
  | stay : LifecycleMove s s.lifecycle
  | resetAccepted (hl : s.lifecycle = .uninit) : LifecycleMove s .resetting
  | initAccepted (hl : s.lifecycle = .resetting) : LifecycleMove s .scriptRunning
  | shutdownAccepted (hl : s.lifecycle = .ready) : LifecycleMove s .shutdown
  | malformedScript (hl : s.lifecycle = .resetting) : LifecycleMove s .faulted
  | transportFailure (hb : s.busy = true) : LifecycleMove s .faulted
  | endMark (w : SWWord) (hb : s.busy = true) (ho : s.outstanding = none) (hf : s.failed = false)
      (hp : s.pending = []) (hh : s.held = some .init) (hw : scriptRead s.config.script s.spc = some w)
      (hd : decodeSW w = some .endMark) : LifecycleMove s .ready

/-- The acceptance of a request moves STATE by its source state (R196). -/
theorem lifecycleMove_of_accepted {r : Request} (rest : List RQWord) (hc : checkRequest r s = none) :
    LifecycleMove s (beginRequest r { s with requests := rest }).lifecycle := by
  have hl := checkRequest_pass hc
  cases r with
  | reset => exact .resetAccepted hl
  | init => exact .initAccepted hl.1
  | setWindowColor w color => exact .stay
  | setPixel x y color => exact .stay
  | shutdown => exact .shutdownAccepted hl

/-- The refusal of a request leaves STATE, but for INITIALIZE's malformed script (R224, R225). -/
theorem lifecycleMove_of_refused {r : Request} {e : ErrCode} (rest : List RQWord) (hc : checkRequest r s = some e) :
    LifecycleMove s (raiseError e { s with requests := rest }).lifecycle := by
  obtain rfl | rfl | ⟨rfl, -, hl, -⟩ := checkRequest_error hc
  · exact .stay
  · exact .stay
  · exact .malformedScript hl

/-- Every block step makes one of the moves of STATE. -/
theorem lifecycleMove_of_step (h : step s = .next t) : LifecycleMove s t.lifecycle := by
  cases blockStep_of_step h with
  | refused rq rest r e hb hr hd hc => exact lifecycleMove_of_refused rest hc
  | accepted rq rest r hb hr hd hc => exact lifecycleMove_of_accepted rest hc
  | failure hb => exact .transportFailure hb
  | endMark w hb ho hf hp hh hw hd => exact .endMark w hb ho hf hp hh hw hd
  | receive op tr rest => rw [receiveResponse_lifecycle]; exact .stay
  | _ => exact .stay

/-- The body of a request runs in RESETTING, SCRIPT_RUNNING or READY. -/
theorem lifecycle_of_bodyPosition (h : BodyPosition s) :
    s.lifecycle = .resetting ∨ s.lifecycle = .scriptRunning ∨ s.lifecycle = .ready := by
  unfold BodyPosition at h
  split at h
  · exact h.elim
  · exact .inl h.1
  · exact .inr (.inl h.1)
  · exact .inr (.inr h.1)
  · exact .inr (.inr h.1)
  · exact h.elim

/-- A walk that stands at an END stands at the end index: no body word is an END (R121). -/
theorem spc_eq_endIndex_of_endMark {w : SWWord} (h : WalkPosition s)
    (hw : scriptRead s.config.script s.spc = some w) (hd : decodeSW w = some .endMark) :
    s.spc.toNat = endIndex s.config.script := by
  obtain ⟨hwf, h1, h2, -⟩ := h
  by_contra hne
  obtain ⟨v, hv, hbody⟩ := getElem_body_of_wellFormed hwf h1 (by omega)
  have hvw : v = w := Option.some.inj (hv.symm.trans hw)
  have hstep : isBodyStep w = true := isBodyStep_of_mem hwf (hvw ▸ List.mem_of_getElem? hbody)
  simp [isBodyStep, hd] at hstep

/-! ## Delivered responses (R28, R87) -/

/-- The ERR field of a response word (R87). -/
theorem rsWord_err (l : Lifecycle) (e : ErrCode) : (rsWord l e).extractLsb' 0 8 = errCode e :=
  BitVec.extractLsb'_append_eq_right

/-- The STATE field of a response word (R87). -/
theorem rsWord_state (l : Lifecycle) (e : ErrCode) : (rsWord l e).extractLsb' 8 3 = lifecycleCode l := by
  rw [rsWord, BitVec.extractLsb'_append_eq_of_le (by decide)]
  exact BitVec.extractLsb'_append_eq_right

/-- `t` has delivered one response word more than `s`, and the word holds `t`'s LAST_ERR and STATE (R28, R87). -/
def Delivers (s t : State) : Prop :=
  ∃ rs, t.replies = s.replies ++ [rs] ∧ rs.extractLsb' 0 8 = errCode t.lastErr ∧
    rs.extractLsb' 8 3 = lifecycleCode t.lifecycle

/-- `finish` delivers its error and STATE as it stands (R182). -/
theorem delivers_finish {u : State} (e : ErrCode) (h : u.replies = s.replies) : Delivers s (finish e u) :=
  ⟨rsWord u.lifecycle e, by rw [finish_replies, h], rsWord_err .., rsWord_state ..⟩

/-- `raiseError` delivers its error and the STATE of its entry (R222). -/
theorem delivers_raiseError {u : State} (e : ErrCode) (h : u.replies = s.replies) : Delivers s (raiseError e u) :=
  delivers_finish e h

/-- An accepted request is answered at once, if it is SHUTDOWN, or its body begins, with no response and LAST_ERR kept
(R181, R194). -/
theorem beginRequest_delivers (r : Request) (rest : List RQWord) :
    ((beginRequest r { s with requests := rest }).replies = s.replies ∧
        (beginRequest r { s with requests := rest }).lastErr = s.lastErr) ∨
      Delivers s (beginRequest r { s with requests := rest }) := by
  cases r with
  | shutdown => exact .inr (delivers_finish .ok rfl)
  | reset | init | setWindowColor | setPixel => exact .inl ⟨rfl, rfl⟩

/-- A block step leaves the responses and LAST_ERR, or delivers one response (R28). -/
theorem step_delivers (h : step s = .next t) : (t.replies = s.replies ∧ t.lastErr = s.lastErr) ∨ Delivers s t := by
  cases blockStep_of_step h with
  | illegal => exact .inr (delivers_raiseError _ rfl)
  | refused => exact .inr (delivers_raiseError _ rfl)
  | failure => exact .inr (delivers_raiseError _ rfl)
  | endMark => exact .inr (delivers_finish _ rfl)
  | finished => exact .inr (delivers_finish _ rfl)
  | accepted rq rest r => exact beginRequest_delivers r rest
  | receive op tr rest => exact .inl ⟨receiveResponse_replies .., receiveResponse_lastErr ..⟩
  | _ => exact .inl ⟨rfl, rfl⟩

/-! ## The status read port (R34 to R38) -/

/-! Which register stands at each index of the port. -/

theorem statusRead_status (s : State) : statusRead s 0x0 = statusWord s := rfl
theorem statusRead_geom (s : State) : statusRead s 0x1 = cfgGeom s.config := rfl
theorem statusRead_offs (s : State) : statusRead s 0x2 = cfgOffs s.config := rfl
theorem statusRead_opc (s : State) : statusRead s 0x3 = cfgOpc s.config := rfl
theorem statusRead_misc (s : State) : statusRead s 0x4 = cfgMisc s.config := rfl
theorem statusRead_rst (s : State) : statusRead s 0x5 = cfgRst s.config := rfl
theorem statusRead_diag (s : State) : statusRead s 0x6 = diagWord s := rfl

/-- STATUS at construction (R45): OWNED alone is 1. -/
theorem statusWord_construct (c : Config) : statusWord (State.construct c) = 0x00000040 := by
  simp [statusWord, flagBit, lifecycleCode, busModeCode, errCode]

/-- DIAG at construction (R45). -/
theorem diagWord_construct (c : Config) : diagWord (State.construct c) = 0 := by
  simp [diagWord]

/-- The configuration registers under R8's defaults, but for CFG_MISC, which holds SCRIPT_LEN. -/
theorem cfg_defaults (m : Memory) :
    cfgGeom (Config.defaults m) = 0x00A00080 ∧ cfgOffs (Config.defaults m) = 0x00000000 ∧
      cfgOpc (Config.defaults m) = 0x002C2B2A ∧ cfgRst (Config.defaults m) = 0x0078000A := by
  simp only [cfgGeom, cfgOffs, cfgOpc, cfgRst, Config.defaults]
  decide

/-- A bit field of a word is zero where its number is. -/
theorem field_eq_zero {m i n : Nat} {v : BitVec m} (h : v.toNat / 2 ^ i % 2 ^ n = 0) : v.extractLsb' i n = 0 :=
  field_eq (by rw [h]; simp)

/-- A flag is the bit of its one-bit field. -/
theorem getLsbD_of_flagBit {m i : Nat} {v : BitVec m} {b : Bool} (h : v.extractLsb' i 1 = flagBit b) :
    v.getLsbD i = b := by
  have h0 : (v.extractLsb' i 1).getLsbD 0 = b := by rw [h]; simp [flagBit]
  simpa using h0

/-- The number of STATUS (R35). -/
theorem toNat_statusWord (s : State) :
    (statusWord s).toNat =
      (errCode s.lastErr).toNat * 2 ^ 8 + (flagBit s.owned).toNat * 2 ^ 6 + (busModeCode s.busMode).toNat * 2 ^ 4 +
        (flagBit s.busy).toNat * 2 ^ 3 + (lifecycleCode s.lifecycle).toNat := by
  rw [statusWord]
  repeat rw [toNat_append_add]
  simp; omega

/-- The number of CFG_OPC (R37). -/
theorem toNat_cfgOpc (c : Config) :
    (cfgOpc c).toNat =
      c.opNop.toNat * 2 ^ 24 + c.opRamwr.toNat * 2 ^ 16 + c.opRaset.toNat * 2 ^ 8 + c.opCaset.toNat := by
  rw [cfgOpc]
  repeat rw [toNat_append_add]
  omega

/-- The number of CFG_MISC (R37). -/
theorem toNat_cfgMisc (c : Config) :
    (cfgMisc c).toNat =
      c.scriptLen.toNat * 2 ^ 16 + (flagBit c.setPixelTrailingNop).toNat * 2 + (flagBit c.rgbOrder).toNat := by
  rw [cfgMisc]
  repeat rw [toNat_append_add]
  simp; omega

/-- STATUS holds STATE, BUSY, BUSMODE, OWNED and LAST_ERR in R35's fields, and zero elsewhere. -/
theorem statusWord_fields (s : State) :
    (statusWord s).extractLsb' 0 3 = lifecycleCode s.lifecycle ∧ (statusWord s).getLsbD 3 = s.busy ∧
      (statusWord s).extractLsb' 4 2 = busModeCode s.busMode ∧ (statusWord s).getLsbD 6 = s.owned ∧
      (statusWord s).getLsbD 7 = false ∧ (statusWord s).extractLsb' 8 8 = errCode s.lastErr ∧
      (statusWord s).extractLsb' 16 16 = 0 := by
  refine ⟨field_eq ?_, getLsbD_of_flagBit (field_eq ?_), field_eq ?_, getLsbD_of_flagBit (field_eq ?_),
    getLsbD_of_flagBit (field_eq_zero ?_), field_eq ?_, field_eq_zero ?_⟩
  all_goals rw [toNat_statusWord]; omega

/-- CFG_OPC holds the four opcodes, one byte each (R37). -/
theorem cfgOpc_fields (c : Config) :
    (cfgOpc c).extractLsb' 0 8 = c.opCaset ∧ (cfgOpc c).extractLsb' 8 8 = c.opRaset ∧
      (cfgOpc c).extractLsb' 16 8 = c.opRamwr ∧ (cfgOpc c).extractLsb' 24 8 = c.opNop := by
  refine ⟨field_eq ?_, field_eq ?_, field_eq ?_, field_eq ?_⟩
  all_goals rw [toNat_cfgOpc]; omega

/-- CFG_MISC holds the two flags, zeros, and SCRIPT_LEN (R37). -/
theorem cfgMisc_fields (c : Config) :
    (cfgMisc c).getLsbD 0 = c.rgbOrder ∧ (cfgMisc c).getLsbD 1 = c.setPixelTrailingNop ∧
      (cfgMisc c).extractLsb' 2 14 = 0 ∧ (cfgMisc c).extractLsb' 16 16 = c.scriptLen := by
  refine ⟨getLsbD_of_flagBit (field_eq ?_), getLsbD_of_flagBit (field_eq ?_), field_eq_zero ?_, field_eq ?_⟩
  all_goals rw [toNat_cfgMisc]; omega

/-- A register of two 16-bit parameters holds each in its half (R36, R38). -/
theorem append_halves (hi lo : Half) :
    (hi ++ lo).extractLsb' 0 16 = lo ∧ (hi ++ lo).extractLsb' 16 16 = hi :=
  ⟨BitVec.extractLsb'_append_eq_right, BitVec.extractLsb'_append_eq_left⟩

/-- No block step changes a configuration register (R33). -/
theorem step_statusRead_config (h : step s = .next t) :
    statusRead t 0x1 = statusRead s 0x1 ∧ statusRead t 0x2 = statusRead s 0x2 ∧ statusRead t 0x3 = statusRead s 0x3 ∧
      statusRead t 0x4 = statusRead s 0x4 ∧ statusRead t 0x5 = statusRead s 0x5 := by
  simp only [statusRead_geom, statusRead_offs, statusRead_opc, statusRead_misc, statusRead_rst, step_config h,
    and_self]

end Sys2Proof.Machine

namespace Sys2Proof

open Machine

/-- Settles O36: by the instruction, and by the block step. -/
theorem configurationNeverChanges : Obligations.ConfigurationNeverChanges :=
  ⟨construct_config, fun _ _ _ => exec_config, fun _ _ => step_config⟩

/-- Settles O38: by the moves of STATE; the invariant says that a body fails only in RESETTING, SCRIPT_RUNNING or READY, and
that the walk meets END at the end index. -/
theorem lifecycleTransitions : Obligations.LifecycleTransitions := by
  rintro s t ⟨-, -, -, hbody, -⟩ h
  have hm := lifecycleMove_of_step h
  generalize t.lifecycle = l at hm ⊢
  cases hm with
  | stay => exact ⟨.inl rfl, fun hne he => absurd he hne⟩
  | resetAccepted hl => simp [hl]
  | initAccepted hl => simp [hl]
  | shutdownAccepted hl => simp [hl]
  | malformedScript hl => simp [hl]
  | transportFailure hb => simp [lifecycle_of_bodyPosition (hbody hb)]
  | endMark w hb ho hf hp hh hw hd =>
    have hpos := hbody hb
    simp only [BodyPosition, hh] at hpos
    obtain ⟨hl, -, hwalk⟩ := hpos
    exact ⟨by simp [hl], fun _ _ => ⟨hh, spc_eq_endIndex_of_endMark hwalk hw hd, hp, ho, hf⟩⟩

/-- Settles O44: by the block step that delivers. -/
theorem lastErrMirrorsResponses : Obligations.LastErrMirrorsResponses :=
  ⟨fun _ => ⟨rfl, rfl⟩, fun _ _ => step_delivers⟩

/-- Settles O1: every clause is an equation about `State.construct`. -/
theorem constructionValues : Obligations.ConstructionValues := by
  intro c
  exact ⟨rfl, rfl, rfl, rfl, rfl, rfl, rfl, rfl, ⟨rfl, rfl, rfl, rfl, rfl⟩, rfl, statusWord_construct c,
    diagWord_construct c⟩

/-- Settles O3: by the fields of each register, and the configuration, which no block step writes. -/
theorem statusRegisterFields : Obligations.StatusRegisterFields := by
  refine ⟨by decide, fun s => ?_, fun m => ⟨statusWord_construct _, cfg_defaults m⟩,
    fun s t => step_statusRead_config⟩
  obtain ⟨hstate, hbusy, hmode, howned, hzero, herr, hhigh⟩ := statusWord_fields s
  obtain ⟨hw, hh⟩ := append_halves s.config.panelH s.config.panelW
  obtain ⟨hcol, hrow⟩ := append_halves s.config.rowOffset s.config.colOffset
  obtain ⟨hcaset, hraset, hramwr, hnop⟩ := cfgOpc_fields s.config
  obtain ⟨hrgb, htrail, hmisc, hlen⟩ := cfgMisc_fields s.config
  obtain ⟨hassert, hrelease⟩ := append_halves s.config.tRstReleaseMs s.config.tRstAssertMs
  exact ⟨hstate, hbusy, hmode, howned, hzero, herr, hhigh, hw, hh, hcol, hrow, hcaset, hraset, hramwr, hnop, hrgb,
    htrail, hmisc, hlen, hassert, hrelease⟩

end Sys2Proof

/-! PROOFS. The words on the channels, by 30_encoding.md: the mask and match rows of the requests and the fields of a legal
one (R82); the words a block step issues (R92) and delivers (R88); the one bit of a transport response it reads (R94). -/

namespace Sys2Proof

/-! ## The fields of a word -/

/-- Two words agree on a field exactly when they agree on each of the two parts it is cut into. -/
theorem field_add_eq_iff {m : Nat} {x y : BitVec m} (i a b : Nat) :
    x.extractLsb' i (a + b) = y.extractLsb' i (a + b) ↔
      x.extractLsb' i a = y.extractLsb' i a ∧ x.extractLsb' (i + a) b = y.extractLsb' (i + a) b := by
  simp only [← BitVec.toNat_inj, toNat_field, Nat.pow_add, ← Nat.div_div_eq_div_mul]
  constructor
  · intro h
    have hlow := congrArg (· % 2 ^ a) h
    have hhigh := congrArg (· / 2 ^ a) h
    simp only [Nat.mod_mul_right_mod, Nat.mod_mul_right_div_self] at hlow hhigh
    exact ⟨hlow, hhigh⟩
  · rintro ⟨hlow, hhigh⟩
    rw [Nat.mod_mul, Nat.mod_mul, hlow, hhigh]

/-- Request words are equal when OPC and the bits above it are. -/
theorem rq_eq_iff {x y : RQWord} :
    x = y ↔ x.extractLsb' 0 8 = y.extractLsb' 0 8 ∧ x.extractLsb' 8 120 = y.extractLsb' 8 120 := by
  rw [← field_add_eq_iff 0 8, BitVec.extractLsb'_eq_self, BitVec.extractLsb'_eq_self]

/-- Request words are equal when OPC, the byte above it, the `n` bits of the operands and the bits above those are. -/
theorem rq_eq_iff_operands {x y : RQWord} (n : Nat) (hn : n ≤ 112) :
    x = y ↔ x.extractLsb' 0 8 = y.extractLsb' 0 8 ∧ x.extractLsb' 8 8 = y.extractLsb' 8 8 ∧
      x.extractLsb' 16 n = y.extractLsb' 16 n ∧ x.extractLsb' (16 + n) (112 - n) = y.extractLsb' (16 + n) (112 - n) := by
  rw [← field_add_eq_iff, Nat.add_sub_cancel' hn, ← field_add_eq_iff 8 8, ← rq_eq_iff]

/-! ## The fields of a legal request (R82, R85) -/

/-- That `rq` is a word of `r`, field by field (R82): OPC, the operands, and zero elsewhere. -/
def HasFields (rq : RQWord) : Request → Prop
  | .reset => rq = 0x00000000000000000000000000000001
  | .init => rq = 0x00000000000000000000000000000002
  | .setWindowColor w color =>
    rq.extractLsb' 0 8 = 0x03 ∧ rq.extractLsb' 8 8 = 0 ∧ rq.extractLsb' 96 32 = 0 ∧ color = rq.extractLsb' 16 16 ∧
      w = { x0 := rq.extractLsb' 32 16, y0 := rq.extractLsb' 48 16,
            x1 := rq.extractLsb' 64 16, y1 := rq.extractLsb' 80 16 }
  | .setPixel x y color =>
    rq.extractLsb' 0 8 = 0x04 ∧ rq.extractLsb' 8 8 = 0 ∧ rq.extractLsb' 64 64 = 0 ∧ color = rq.extractLsb' 16 16 ∧
      x = rq.extractLsb' 32 16 ∧ y = rq.extractLsb' 48 16
  | .shutdown => rq = 0x00000000000000000000000000000005

theorem hasFields_of_decodeRQ {rq : RQWord} {r : Request} (h : decodeRQ rq = some r) : HasFields rq r := by
  simp only [decodeRQ] at h
  split at h
  · next hc => cases h; exact rq_eq_iff.mpr hc
  split at h
  · next hc => cases h; exact rq_eq_iff.mpr hc
  split at h
  · next hc => obtain ⟨hopc, hzero, hhigh⟩ := hc; cases h; exact ⟨hopc, hzero, hhigh, rfl, rfl⟩
  split at h
  · next hc => obtain ⟨hopc, hzero, hhigh⟩ := hc; cases h; exact ⟨hopc, hzero, hhigh, rfl, rfl, rfl⟩
  split at h
  · next hc => cases h; exact rq_eq_iff.mpr hc
  cases h

theorem decodeRQ_of_hasFields {rq : RQWord} {r : Request} (h : HasFields rq r) : decodeRQ rq = some r := by
  cases r with
  | reset => cases h; decide
  | init => cases h; decide
  | setWindowColor w color =>
    obtain ⟨hopc, hzero, hhigh, rfl, rfl⟩ := h
    simp [decodeRQ, hopc, hzero, hhigh]
  | setPixel x y color =>
    obtain ⟨hopc, hzero, hhigh, rfl, rfl, rfl⟩ := h
    simp [decodeRQ, hopc, hzero, hhigh]
  | shutdown => cases h; decide

/-- The decoder reads `r` from exactly the words with the fields of `r`. -/
theorem decodeRQ_eq_some_iff {rq : RQWord} {r : Request} : decodeRQ rq = some r ↔ HasFields rq r :=
  ⟨hasFields_of_decodeRQ, decodeRQ_of_hasFields⟩

/-! ## The rows of the requests (R82) -/

/-- The mask and the match of each request. -/
def requestRows : List (RQWord × RQWord) :=
  [(0xFFFFFFFFFFFFFFFFFFFFFFFFFFFFFFFF, 0x00000000000000000000000000000001),
   (0xFFFFFFFFFFFFFFFFFFFFFFFFFFFFFFFF, 0x00000000000000000000000000000002),
   (0xFFFFFFFF00000000000000000000FFFF, 0x00000000000000000000000000000003),
   (0xFFFFFFFFFFFFFFFF000000000000FFFF, 0x00000000000000000000000000000004),
   (0xFFFFFFFFFFFFFFFFFFFFFFFFFFFFFFFF, 0x00000000000000000000000000000005)]

/-- The rows a word matches. -/
def matchingRows (rq : RQWord) : List (RQWord × RQWord) := requestRows.filter (fun row => rq &&& row.1 == row.2)

/-- A word matches a row of full mask when it is the row's match. -/
theorem and_fullMask_iff {rq value : RQWord} : rq &&& 0xFFFFFFFFFFFFFFFFFFFFFFFFFFFFFFFF = value ↔ rq = value := by
  rw [show (0xFFFFFFFFFFFFFFFFFFFFFFFFFFFFFFFF : RQWord) = BitVec.allOnes 128 from rfl, BitVec.and_allOnes]

/-- A word matches SET_WINDOW_COLOR's row when OPC is its opcode and the fields it does not use are zero. -/
theorem and_setWindowColorMask_iff {rq : RQWord} :
    rq &&& 0xFFFFFFFF00000000000000000000FFFF = 0x00000000000000000000000000000003 ↔
      rq.extractLsb' 0 8 = 0x03 ∧ rq.extractLsb' 8 8 = 0 ∧ rq.extractLsb' 96 32 = 0 := by
  have hbyte (v : Byte) : v &&& 0xFF#8 = v := BitVec.and_allOnes
  have hhigh (v : BitVec 32) : v &&& 0xFFFFFFFF#32 = v := BitVec.and_allOnes
  simp [rq_eq_iff_operands 80, BitVec.extractLsb'_and, hbyte, hhigh]

/-- A word matches SET_PIXEL's row when OPC is its opcode and the fields it does not use are zero. -/
theorem and_setPixelMask_iff {rq : RQWord} :
    rq &&& 0xFFFFFFFFFFFFFFFF000000000000FFFF = 0x00000000000000000000000000000004 ↔
      rq.extractLsb' 0 8 = 0x04 ∧ rq.extractLsb' 8 8 = 0 ∧ rq.extractLsb' 64 64 = 0 := by
  have hbyte (v : Byte) : v &&& 0xFF#8 = v := BitVec.and_allOnes
  have hhigh (v : BitVec 64) : v &&& 0xFFFFFFFFFFFFFFFF#64 = v := BitVec.and_allOnes
  simp [rq_eq_iff_operands 48, BitVec.extractLsb'_and, hbyte, hhigh]

/-- OPC of a request word (R80). -/
def opc (rq : RQWord) : BitVec 8 := rq.extractLsb' 0 8

/-- A word has the OPC of every row it matches, since each mask covers OPC. -/
theorem opc_of_mem_matchingRows {rq : RQWord} {row : RQWord × RQWord} (h : row ∈ matchingRows rq) :
    opc row.2 = opc rq := by
  obtain ⟨hrow, hmatch⟩ := List.mem_filter.mp h
  have hmask : ∀ row ∈ requestRows, opc row.1 = BitVec.allOnes 8 := by simp [requestRows, opc]
  rw [← beq_iff_eq.mp hmatch, opc, BitVec.extractLsb'_and, ← opc, ← opc, hmask row hrow, BitVec.and_allOnes]

/-- No word matches two rows: the rows' opcodes differ, and a word has one OPC. -/
theorem matchingRows_length_le_one (rq : RQWord) : (matchingRows rq).length ≤ 1 := by
  have hrows : (requestRows.map (fun row => opc row.2)).Nodup := by decide
  have hmatching : ((matchingRows rq).map (fun row => opc row.2)).Nodup :=
    hrows.sublist (List.filter_sublist.map _)
  rwa [List.map_congr_left (fun row => opc_of_mem_matchingRows), List.map_const', List.nodup_replicate] at hmatching

/-- A word has the fields of a request exactly when it matches a row. -/
theorem exists_hasFields_iff {rq : RQWord} :
    (∃ r, HasFields rq r) ↔ ∃ row ∈ requestRows, rq &&& row.1 = row.2 := by
  simp only [requestRows, List.exists_mem_cons_iff, and_fullMask_iff, and_setWindowColorMask_iff,
    and_setPixelMask_iff]
  constructor
  · rintro ⟨r, h⟩
    cases r with
    | reset => exact .inl h
    | init => exact .inr (.inl h)
    | setWindowColor w color =>
      obtain ⟨hopc, hzero, hhigh, -⟩ := h
      exact .inr (.inr (.inl ⟨hopc, hzero, hhigh⟩))
    | setPixel x y color =>
      obtain ⟨hopc, hzero, hhigh, -⟩ := h
      exact .inr (.inr (.inr (.inl ⟨hopc, hzero, hhigh⟩)))
    | shutdown => exact .inr (.inr (.inr (.inr (.inl h))))
  · rintro (h | h | ⟨hopc, hzero, hhigh⟩ | ⟨hopc, hzero, hhigh⟩ | h | ⟨_, hnil, -⟩)
    · exact ⟨.reset, h⟩
    · exact ⟨.init, h⟩
    · exact ⟨.setWindowColor _ _, hopc, hzero, hhigh, rfl, rfl⟩
    · exact ⟨.setPixel _ _ _, hopc, hzero, hhigh, rfl, rfl, rfl⟩
    · exact ⟨.shutdown, h⟩
    · cases hnil

/-- The legal words are the words that match one row. -/
theorem isSome_decodeRQ_iff {rq : RQWord} : (decodeRQ rq).isSome = true ↔ (matchingRows rq).length = 1 := by
  have hlen : (matchingRows rq).length = 1 ↔ 0 < (matchingRows rq).length := by
    have := matchingRows_length_le_one rq
    omega
  rw [hlen, List.length_pos_iff_exists_mem, Option.isSome_iff_exists]
  simp only [decodeRQ_eq_some_iff, exists_hasFields_iff, matchingRows, List.mem_filter, beq_iff_eq]

end Sys2Proof

namespace Sys2Proof.Machine

variable {s t : State}

/-! ## The words issued (R92) -/

/-- The word of TRANSFER has KIND 5 and ARG[31:8] zero. -/
theorem mayIssue_transfer (b : Byte) : mayIssue (TransportOp.word (.transfer b)) = true := by
  have hn : (TransportOp.word (.transfer b)).toNat = 5 * 2 ^ 32 + b.toNat := toNat_byteWord 5 b
  have hkind : (TransportOp.word (.transfer b)).extractLsb' 32 4 = 5 := field_eq (by rw [hn]; simp; omega)
  have harg : (TransportOp.word (.transfer b)).extractLsb' 8 24 = 0 := field_eq_zero (by rw [hn]; omega)
  simp [mayIssue, hkind, harg]

/-- The word of SLEEP has KIND 6, whose ARG is free. -/
theorem mayIssue_sleep (ms : BitVec 32) : mayIssue (TransportOp.word (.sleep ms)) = true := by
  have hkind : (TransportOp.word (.sleep ms)).extractLsb' 32 4 = 6 := BitVec.extractLsb'_append_eq_left
  simp [mayIssue, hkind]

/-- The block may issue the word of every transport operation. -/
theorem mayIssue_word (op : TransportOp) : mayIssue op.word = true := by
  cases op with
  | transfer b => exact mayIssue_transfer b
  | sleep ms => exact mayIssue_sleep ms
  | assertReset | releaseReset | selectCmd | selectData => decide

/-- The beginning of a body issues nothing. -/
@[simp] theorem beginRequest_issued (r : Request) (s : State) : (beginRequest r s).issued = s.issued := by
  cases r <;> rfl

/-- A block step issues nothing, or the word of one transport operation. -/
theorem step_issued (h : step s = .next t) :
    t.issued = s.issued ∨ ∃ op : TransportOp, t.issued = s.issued ++ [op.word] := by
  cases blockStep_of_step h with
  | issue op | pixel _ _ _ op | scriptStep _ _ op => exact .inr ⟨op, rfl⟩
  | _ => simp

/-! ## The words delivered (R88) -/

theorem errCode_le (e : ErrCode) : (errCode e).toNat ≤ 5 := by cases e <;> decide

theorem lifecycleCode_le (l : Lifecycle) : (lifecycleCode l).toNat ≤ 5 := by cases l <;> decide

/-- The bits above STATE are zero in a response word (R87). -/
theorem rsWord_high (l : Lifecycle) (e : ErrCode) : (rsWord l e).extractLsb' 11 21 = 0 := by
  rw [rsWord, BitVec.append_assoc]
  exact BitVec.extractLsb'_append_eq_left

/-- A response word keeps R88's three bounds. -/
theorem rsWord_legal (l : Lifecycle) (e : ErrCode) :
    (rsWord l e).extractLsb' 11 21 = 0 ∧ ((rsWord l e).extractLsb' 0 8).toNat ≤ 5 ∧
      ((rsWord l e).extractLsb' 8 3).toNat ≤ 5 := by
  rw [rsWord_err, rsWord_state]
  exact ⟨rsWord_high l e, errCode_le e, lifecycleCode_le l⟩

/-- An accepted request delivers one response word, if it is SHUTDOWN, or none yet (R181, R194). -/
theorem beginRequest_replies (r : Request) (s : State) :
    (beginRequest r s).replies = s.replies ∨ ∃ l e, (beginRequest r s).replies = s.replies ++ [rsWord l e] := by
  cases r with
  | shutdown => exact .inr ⟨_, _, rfl⟩
  | reset | init | setWindowColor | setPixel => exact .inl rfl

/-- A block step delivers nothing, or one response word of a STATE and an error. -/
theorem step_replies (h : step s = .next t) :
    t.replies = s.replies ∨ ∃ l e, t.replies = s.replies ++ [rsWord l e] := by
  cases blockStep_of_step h with
  | accepted rq rest r => exact beginRequest_replies r { s with requests := rest }
  | receive => exact .inl (receiveResponse_replies ..)
  | illegal | refused | failure | endMark | finished => exact .inr ⟨_, _, rfl⟩
  | _ => exact .inl rfl

/-! ## The bit of a response that is read (R94) -/

/-- The end of a group of operations does not read the responses received. -/
theorem endOfGroup_answered_comm (answers : List TRWord) (s : State) :
    endOfGroup { s with answered := answers } = { endOfGroup s with answered := answers } := by
  unfold endOfGroup; split <;> rfl

/-- Two responses with the same FAIL are received alike, but for the record of the response. -/
theorem receiveResponse_eq_of_trFail_eq (op : TransportOp) {tr tr' : TRWord} (h : trFail tr = trFail tr')
    (rest : List TRWord) (s : State) :
    receiveResponse op tr rest s = { receiveResponse op tr' rest s with answered := s.answered ++ [tr] } := by
  simp only [receiveResponse, h]
  split
  · rfl
  · rw [← endOfGroup_answered_comm]

/-- With an operation outstanding, the block step receives the response that stands next (R100). -/
theorem step_receive {op : TransportOp} (hb : s.busy = true) (ho : s.outstanding = some op) (tr : TRWord)
    (rest : List TRWord) :
    step { s with responses := tr :: rest } =
      .next (receiveResponse op tr rest { s with responses := tr :: rest }) := by
  rw [step_outstanding (s := { s with responses := tr :: rest }) hb ho,
    emitOp_receive (s := { s with responses := tr :: rest }) ho rfl]

end Sys2Proof.Machine

namespace Sys2Proof

open Machine

/-- Settles O9: no two rows share an OPC, and the decoder's conditions are the rows and the fields. -/
theorem legalRequestsMatchOneRow : Obligations.LegalRequestsMatchOneRow := fun rq =>
  ⟨matchingRows_length_le_one rq, isSome_decodeRQ_iff, decodeRQ_eq_some_iff, decodeRQ_eq_some_iff,
    fun _ _ => decodeRQ_eq_some_iff, fun _ _ _ => decodeRQ_eq_some_iff, decodeRQ_eq_some_iff⟩

/-- Settles O42: by the word a block step issues. -/
theorem issuedWordsAreLegal : Obligations.IssuedWordsAreLegal := by
  intro s t hs h
  obtain heq | ⟨op, heq⟩ := step_issued h
  · rwa [heq]
  · rw [heq]
    exact List.forall_mem_append.mpr ⟨hs, List.forall_mem_singleton.mpr (mayIssue_word op)⟩

/-- Settles O43: by the response word a block step delivers. -/
theorem responseWordsAreLegal : Obligations.ResponseWordsAreLegal := by
  intro s t hs h
  obtain heq | ⟨l, e, heq⟩ := step_replies h
  · rwa [heq]
  · rw [heq]
    exact List.forall_mem_append.mpr ⟨hs, List.forall_mem_singleton.mpr (rsWord_legal l e)⟩

/-- Settles O48: the block step is the receipt of the response, which reads FAIL alone. -/
theorem onlyFailBitIsRead : Obligations.OnlyFailBitIsRead := by
  intro s t tr tr' rest hfail ho hb h
  obtain ⟨op, ho⟩ := Option.ne_none_iff_exists'.mp ho
  rw [step_receive hb ho] at h
  cases h
  exact ⟨_, step_receive hb ho tr' rest, receiveResponse_eq_of_trFail_eq op hfail rest _, receiveResponse_answered ..⟩

end Sys2Proof

/-! PROOFS. The words after the end index (R125): a block step reads SCRIPT through its well-formedness and the word
at SPC (R51), and neither looks beyond the first word of TAG 0xF after word 0. -/

namespace Sys2Proof.Machine

variable {s : State} {m : Memory}

/-! ## The script up to its end index (R121) -/

/-- Where there is an end index, the words from it on begin with one of TAG 0xF. -/
theorem endWords_of_endIndex_lt (h : endIndex m < m.length) :
    ∃ last rest, endWords m = last :: rest ∧ beforeEnd last = false := by
  have hhead := List.head?_dropWhile_not beforeEnd m.tail
  rw [← endWords] at hhead
  rcases hend : endWords m with _ | ⟨last, rest⟩
  · have hlen := congrArg List.length (bodyWords_append_endWords m)
    rw [hend, List.append_nil, List.length_tail] at hlen
    rw [endIndex, hlen] at h
    omega
  · rw [hend] at hhead
    exact ⟨last, rest, rfl, by simpa using hhead⟩

/-- Where there is an end index, the words up to it are word 0, the body, and one word of TAG 0xF. -/
theorem take_endIndex_succ (h : endIndex m < m.length) :
    ∃ first last, m.take (endIndex m + 1) = first :: (bodyWords m ++ [last]) ∧ beforeEnd last = false := by
  obtain ⟨last, rest, hend, hlast⟩ := endWords_of_endIndex_lt h
  obtain ⟨first, ws, rfl⟩ := List.exists_cons_of_length_pos (Nat.zero_lt_of_lt h)
  have hprefix : bodyWords (first :: ws) ++ [last] <+: ws :=
    ⟨rest, by rw [List.append_assoc, List.singleton_append, ← hend, bodyWords_append_endWords, List.tail_cons]⟩
  refine ⟨first, last, ?_, hlast⟩
  rw [List.prefix_iff_eq_take.mp hprefix, List.length_append, List.length_singleton, endIndex, Nat.add_comm 1,
    List.take_succ_cons]

/-- The well-formedness check of a body and a word of TAG 0xF after word 0, whatever stands after them. -/
theorem wellFormedScript_of_end {body : List SWWord} {last : SWWord} (hbody : ∀ w ∈ body, beforeEnd w = true)
    (hlast : beforeEnd last = false) (first : SWWord) (after : List SWWord) :
    wellFormedScript (first :: (body ++ [last]) ++ after) =
      (decodeSW first == some .start && last == ScriptStep.word .endMark && body.all isBodyStep) := by
  have hwords : bodyWords (first :: (body ++ [last]) ++ after) = body := by
    simp [bodyWords, List.takeWhile_append_of_pos hbody, hlast]
  have hend : endWords (first :: (body ++ [last]) ++ after) = last :: after := by
    simp [endWords, List.dropWhile_append_of_pos hbody, hlast]
  have hlen : 2 ≤ (first :: (body ++ [last]) ++ after).length := by simp; omega
  simp only [wellFormedScript, hwords, hend, hlen, decide_true, Bool.true_and]
  rfl

/-! ## Other words after the end index -/

/-- The well-formedness check does not read the words after the end index. -/
theorem wellFormedScript_take_append (h : endIndex m < m.length) (after : List SWWord) :
    wellFormedScript (m.take (endIndex m + 1) ++ after) = wellFormedScript m := by
  obtain ⟨first, last, htake, hlast⟩ := take_endIndex_succ h
  have hany (ws : List SWWord) : wellFormedScript (m.take (endIndex m + 1) ++ ws) =
      (decodeSW first == some .start && last == ScriptStep.word .endMark && (bodyWords m).all isBodyStep) := by
    rw [htake, wellFormedScript_of_end (fun _ => beforeEnd_of_mem_bodyWords) hlast]
  rw [hany, ← hany (m.drop (endIndex m + 1)), List.take_append_drop]

/-- ScriptRead up to the end index does not read the words after it (R50). -/
theorem scriptRead_take_append (h : endIndex m < m.length) {i : Half} (hi : i.toNat ≤ endIndex m)
    (after : List SWWord) : scriptRead (m.take (endIndex m + 1) ++ after) i = scriptRead m i := by
  rw [scriptRead, List.getElem?_append_left (by rw [List.length_take]; omega), List.getElem?_take_of_lt (by omega)]
  rfl

/-- INITIALIZE's body stands in the walk. -/
theorem walkPosition_of_consistent (h : Consistent s) (hb : s.busy = true) (hh : s.held = some .init) :
    WalkPosition s := by
  obtain ⟨-, -, -, hbody, -⟩ := h
  have hpos := hbody hb
  simp only [BodyPosition, hh] at hpos
  obtain ⟨-, -, hwalk⟩ := hpos
  exact hwalk

end Sys2Proof.Machine

namespace Sys2Proof

open Machine

/-- Settles O50: the other script is as well formed, and holds the same word at SPC, which in the walk of a consistent
state is not beyond the end index. -/
theorem stepsAfterEndHaveNoEffect : Obligations.StepsAfterEndHaveNoEffect := by
  intro s t after hs hend h
  have hwalk (hb : s.busy = true) (hh : s.held = some .init) : s.spc.toNat ≤ endIndex s.config.script := by
    obtain ⟨-, -, hspc, -⟩ := walkPosition_of_consistent hs hb hh
    exact hspc
  simpa only [State.reconfigured, step_config h] using
    step_reconfigured (b := s.config.rgbOrder) (wellFormedScript_take_append hend after)
      (fun hb hh => scriptRead_take_append hend (hwalk hb hh) after) h

end Sys2Proof

/-! PROOFS. The order of the pixels of a burst (R156): the counters the block steps on visit the pixels of the formula, and
stop after the last. -/

namespace Sys2Proof.Machine

variable {w : Window} {k : Nat}

/-! ## Rows and columns of the `k`-th pixel -/

theorem windowWidth_pos (w : Window) : 0 < windowWidth w := Nat.succ_pos _

/-- A pixel's column lies in the window. -/
theorem column_lt_windowWidth (w : Window) (k : Nat) : k % windowWidth w < windowWidth w :=
  Nat.mod_lt _ (windowWidth_pos w)

/-- A pixel is one of the window's exactly when its row is. -/
theorem row_lt_windowHeight_iff (w : Window) (k : Nat) :
    k / windowWidth w < windowHeight w ↔ k < windowWidth w * windowHeight w :=
  Nat.mul_comm (windowHeight w) (windowWidth w) ▸ Nat.div_lt_iff_lt_mul (windowWidth_pos w)

/-- Before the end of a row, the next pixel is in the next column. -/
theorem next_within_row (h : k % windowWidth w + 1 < windowWidth w) :
    (k + 1) / windowWidth w = k / windowWidth w ∧ (k + 1) % windowWidth w = k % windowWidth w + 1 :=
  (Nat.div_mod_unique (windowWidth_pos w)).mpr ⟨by rw [Nat.add_right_comm, Nat.mod_add_div], h⟩

/-- At the end of a row, the next pixel is in the first column of the next row. -/
theorem next_after_row (h : k % windowWidth w + 1 = windowWidth w) :
    (k + 1) / windowWidth w = k / windowWidth w + 1 ∧ (k + 1) % windowWidth w = 0 := by
  refine (Nat.div_mod_unique (windowWidth_pos w)).mpr ⟨?_, windowWidth_pos w⟩
  calc 0 + windowWidth w * (k / windowWidth w + 1)
      = windowWidth w * (k / windowWidth w) + (k % windowWidth w + 1) := by rw [h, Nat.mul_succ, Nat.zero_add]
    _ = k + 1 := by rw [← Nat.add_assoc, Nat.div_add_mod]

/-! ## The coordinates do not wrap -/

/-- A number added to a 16-bit value without wrapping. -/
theorem toNat_add_ofNat {v : Half} {n : Nat} (h : v.toNat + n < 65536) :
    (v + BitVec.ofNat 16 n).toNat = v.toNat + n := by
  rw [BitVec.toNat_add, BitVec.toNat_ofNat]
  omega

theorem toNat_pixelAt_x (hx : w.x0.toNat ≤ w.x1.toNat) (k : Nat) :
    (pixelAt w k).x.toNat = w.x0.toNat + k % windowWidth w := by
  have hcol : k % windowWidth w < w.x1.toNat - w.x0.toNat + 1 := column_lt_windowWidth w k
  have hx1 := w.x1.isLt
  exact toNat_add_ofNat (by omega)

theorem toNat_pixelAt_y (hy : w.y0.toNat ≤ w.y1.toNat) (hk : k < windowWidth w * windowHeight w) :
    (pixelAt w k).y.toNat = w.y0.toNat + k / windowWidth w := by
  have hrow : k / windowWidth w < w.y1.toNat - w.y0.toNat + 1 := (row_lt_windowHeight_iff w k).mpr hk
  have hy1 := w.y1.isLt
  exact toNat_add_ofNat (by omega)

/-- The counter `x` has not reached x1 before the end of a row. -/
theorem pixelAt_x_lt_iff (hx : w.x0.toNat ≤ w.x1.toNat) :
    (pixelAt w k).x < w.x1 ↔ k % windowWidth w + 1 < windowWidth w := by
  rw [BitVec.lt_def, toNat_pixelAt_x hx]
  unfold windowWidth
  omega

/-- The counter `y` has not reached y1 before the last row. -/
theorem pixelAt_y_lt_iff (hy : w.y0.toNat ≤ w.y1.toNat) (hk : k < windowWidth w * windowHeight w) :
    (pixelAt w k).y < w.y1 ↔ k / windowWidth w + 1 < windowHeight w := by
  rw [BitVec.lt_def, toNat_pixelAt_y hy hk, windowHeight]
  omega

/-! ## The counters -/

theorem pixelAt_zero (w : Window) : pixelAt w 0 = { x := w.x0, y := w.y0, k := 0 } := by simp [pixelAt]

theorem pixelAt_succ_within_row (h : k % windowWidth w + 1 < windowWidth w) :
    pixelAt w (k + 1) = { x := (pixelAt w k).x + 1, y := (pixelAt w k).y, k := k + 1 } := by
  obtain ⟨hrow, hcol⟩ := next_within_row h
  simp [pixelAt, hrow, hcol, BitVec.ofNat_add, BitVec.add_assoc]

theorem pixelAt_succ_after_row (h : k % windowWidth w + 1 = windowWidth w) :
    pixelAt w (k + 1) = { x := w.x0, y := (pixelAt w k).y + 1, k := k + 1 } := by
  obtain ⟨hrow, hcol⟩ := next_after_row h
  simp [pixelAt, hrow, hcol, BitVec.ofNat_add, BitVec.add_assoc]

/-- The counters step from each pixel of the window to the formula's next one, and from the last to none. -/
theorem nextPixel_pixelAt (hx : w.x0.toNat ≤ w.x1.toNat) (hy : w.y0.toNat ≤ w.y1.toNat)
    (hk : k < windowWidth w * windowHeight w) :
    nextPixel w (pixelAt w k) =
      if k + 1 < windowWidth w * windowHeight w then some (pixelAt w (k + 1)) else none := by
  simp only [nextPixel, pixelAt_x_lt_iff hx, pixelAt_y_lt_iff hy hk, ← row_lt_windowHeight_iff w (k + 1)]
  rcases Nat.lt_or_eq_of_le (Nat.succ_le_of_lt (column_lt_windowWidth w k)) with hcol | hcol
  · have hrow : (k + 1) / windowWidth w < windowHeight w := by
      rw [(next_within_row hcol).left]
      exact (row_lt_windowHeight_iff w k).mpr hk
    rw [if_pos hcol, if_pos hrow, pixelAt_succ_within_row hcol]
    rfl
  · rw [if_neg (Nat.not_lt_of_le hcol.ge), (next_after_row hcol).left, pixelAt_succ_after_row hcol]
    rfl

end Sys2Proof.Machine

namespace Sys2Proof

open Machine

/-- Settles O53: inside a row the counters step to the next column, after a row to the next row's first, and the `k`-th
pixel's column and row are the remainder and the quotient of `k` by the width. -/
theorem pixelsAreRowMajor : Obligations.PixelsAreRowMajor := by
  intro w hx hy
  refine ⟨pixelAt_zero w, fun k hk => ?_, fun k hk => ?_, fun k hk => ⟨toNat_pixelAt_x hx k, toNat_pixelAt_y hy hk⟩⟩
  · rw [nextPixel_pixelAt hx hy (Nat.lt_of_succ_lt hk), if_pos hk]
  · rw [nextPixel_pixelAt hx hy (by omega), if_neg (by omega)]

end Sys2Proof

/-! PROOFS. Framer calls: setWindow (R153) and writePixels (R155) are sequences of Framer calls, each a select and the
transfer of one byte (R107, R108), so their costs (R154, R159) are counts of calls. -/

namespace Sys2Proof.Machine

/-- The operations of a sequence of Framer calls, each given by its select and its byte (R107, R108). -/
def callOps (calls : List (TransportOp × Byte)) : List TransportOp :=
  calls.flatMap (fun call => [call.1, .transfer call.2])

/-- The two Framer calls of a 16-bit value (R53, R158). -/
def halfCalls (v : Half) : List (TransportOp × Byte) := [(.selectData, hiByte v), (.selectData, loByte v)]

/-- The Framer calls of setWindow (R153). -/
def setWindowCalls (c : Config) (w : Window) : List (TransportOp × Byte) :=
  (.selectCmd, c.opCaset) :: (halfCalls (calibratedColumn c w.x0) ++ halfCalls (calibratedColumn c w.x1)) ++
    (.selectCmd, c.opRaset) :: (halfCalls (calibratedRow c w.y0) ++ halfCalls (calibratedRow c w.y1))

/-- The Framer calls of the pixels of a burst, in order (R155, R156). -/
def pixelCalls (w : Window) (src : Nat → Half → Half → Half) : List (TransportOp × Byte) :=
  (List.range (windowWidth w * windowHeight w)).flatMap
    (fun k => halfCalls (src k (pixelAt w k).x (pixelAt w k).y))

/-- The Framer calls of writePixels (R155). -/
def writePixelsCalls (c : Config) (w : Window) (src : Nat → Half → Half → Half) : List (TransportOp × Byte) :=
  setWindowCalls c w ++ [(.selectCmd, c.opRamwr)] ++ pixelCalls w src ++ [(.selectCmd, c.opNop)]

/-! ## The cost of Framer calls -/

theorem callOps_append (xs ys : List (TransportOp × Byte)) : callOps (xs ++ ys) = callOps xs ++ callOps ys :=
  List.flatMap_append

/-- A Framer call is two operations. -/
theorem length_callOps (calls : List (TransportOp × Byte)) : (callOps calls).length = 2 * calls.length := by
  simp [callOps, List.length_flatMap, Nat.mul_comm]

/-- A Framer call transfers its byte, and its select transfers nothing. -/
theorem bytesOf_callOps {calls : List (TransportOp × Byte)} (h : calls.all (fun call => isSelect call.1) = true) :
    bytesOf (callOps calls) = calls.map (fun call => call.2) := by
  have hcall : ∀ call ∈ calls, bytesOf [call.1, .transfer call.2] = [call.2] := by
    rintro ⟨op, b⟩ hmem
    have hsel : isSelect op = true := List.all_eq_true.mp h _ hmem
    cases op with
    | selectCmd | selectData => rfl
    | assertReset | releaseReset | transfer | sleep => cases hsel
  rw [callOps, bytesOf_flatMap, List.flatMap_congr hcall, List.map_eq_flatMap]

/-! ## setWindow -/

theorem setWindow_eq_callOps (c : Config) (w : Window) : setWindow c w = callOps (setWindowCalls c w) := rfl

theorem setWindowCalls_all_select (c : Config) (w : Window) :
    (setWindowCalls c w).all (fun call => isSelect call.1) = true := rfl

/-! ## writePixels -/

theorem callOps_pixelCalls (w : Window) (src : Nat → Half → Half → Half) :
    callOps (pixelCalls w src) = (pixelsOf w).flatMap (fun p => sendHalf (src p.k p.x p.y)) := by
  rw [callOps, pixelCalls, List.flatMap_assoc, pixelsOf, List.flatMap_map]
  rfl

/-- A pixel is two Framer calls. -/
theorem length_pixelCalls (w : Window) (src : Nat → Half → Half → Half) :
    (pixelCalls w src).length = 2 * (windowWidth w * windowHeight w) := by
  simp [pixelCalls, halfCalls, List.length_flatMap, Nat.mul_comm]

theorem pixelCalls_all_select (w : Window) (src : Nat → Half → Half → Half) :
    (pixelCalls w src).all (fun call => isSelect call.1) = true := by
  simp [pixelCalls, halfCalls, isSelect]

theorem writePixels_eq_callOps (c : Config) (w : Window) (src : Nat → Half → Half → Half) :
    writePixels c w src = callOps (writePixelsCalls c w src) := by
  simp only [writePixelsCalls, callOps_append, callOps_pixelCalls]
  rfl

theorem length_writePixelsCalls (c : Config) (w : Window) (src : Nat → Half → Half → Half) :
    (writePixelsCalls c w src).length = 2 * (windowWidth w * windowHeight w) + 12 := by
  simp [writePixelsCalls, length_pixelCalls, setWindowCalls, halfCalls]

theorem writePixelsCalls_all_select (c : Config) (w : Window) (src : Nat → Half → Half → Half) :
    (writePixelsCalls c w src).all (fun call => isSelect call.1) = true := by
  simp only [writePixelsCalls, List.all_append, setWindowCalls_all_select, pixelCalls_all_select]
  rfl

end Sys2Proof.Machine

namespace Sys2Proof

open Machine

/-- Settles O54: writePixels is the operations of its Framer calls, and each call is a select and a TRANSFER. -/
theorem writePixelsCost : Obligations.WritePixelsCost := by
  intro c w src calls
  have hcalls : calls = writePixelsCalls c w src := rfl
  have hbytes := bytesOf_callOps (writePixelsCalls_all_select c w src)
  rw [hcalls, writePixels_eq_callOps, length_callOps, hbytes, List.length_map, length_writePixelsCalls]
  exact ⟨rfl, rfl, by omega, rfl, rfl⟩

/-- Settles O52: setWindow is the operations of its 10 Framer calls, and a calibrated coordinate is a 16-bit sum. -/
theorem setWindowSendsTenBytes : Obligations.SetWindowSendsTenBytes := by
  intro c w
  have hbytes := bytesOf_callOps (setWindowCalls_all_select c w)
  rw [setWindow_eq_callOps, length_callOps, hbytes, List.length_map]
  exact ⟨rfl, rfl, rfl, fun v => ⟨BitVec.toNat_add v c.colOffset, BitVec.toNat_add v c.rowOffset⟩⟩

end Sys2Proof

/-! PROOFS. Refusals at acceptance (R183 to R185, R190, R197): an illegal word, or a request one of whose checks fails, is
answered with its error in the accepting step, and that step issues nothing. -/

namespace Sys2Proof.Machine

variable {s t : State} {rq : RQWord} {rest : List RQWord} {r : Request}

/-! ## The accepting step of a legal request (R181) -/

/-- A request whose checks fail is refused in the block step that takes it (R185). -/
theorem step_refused {e : ErrCode} (hb : s.busy = false) (hr : s.requests = rq :: rest) (hd : decodeRQ rq = some r)
    (hc : checkRequest r s = some e) : step s = .next (raiseError e { s with requests := rest }) := by
  rw [step_request hb hr hd, exec_request (by exact hb), checkRequest_requests, hc]

/-- A request whose checks pass is begun in the block step that takes it (R181). -/
theorem step_accepted (hb : s.busy = false) (hr : s.requests = rq :: rest) (hd : decodeRQ rq = some r)
    (hc : checkRequest r s = none) : step s = .next (beginRequest r { s with requests := rest }) := by
  rw [step_request hb hr hd, exec_request (by exact hb), checkRequest_requests, hc]

/-! ## The checks that answer NOT_READY -/

/-- The lifecycle check answers NOT_READY in a terminal state, whatever its source state (R184). -/
theorem lifecycleCheck_of_terminal {l : Lifecycle} (h : isTerminal l = true) (source : Lifecycle) :
    lifecycleCheck source l = some .notReady := if_pos h

/-- The pixel check answers NOT_READY outside READY, in range or not (R190). -/
theorem pixelCheck_of_ne_ready {l : Lifecycle} (h : l ≠ .ready) (inRange : Bool) :
    pixelCheck inRange l = some .notReady := if_neg h

/-- No terminal state is READY. -/
theorem ne_ready_of_terminal {l : Lifecycle} (h : isTerminal l = true) : l ≠ .ready := by
  rintro rfl; cases h

/-- In a terminal state the first check of every request fails with NOT_READY (R184). -/
theorem checkRequest_of_terminal (h : isTerminal s.lifecycle = true) (r : Request) :
    checkRequest r s = some .notReady := by
  cases r with
  | reset | shutdown => exact lifecycleCheck_of_terminal h _
  | init => rw [checkRequest, checkInitialize, lifecycleCheck_of_terminal h]
  | setWindowColor | setPixel => exact pixelCheck_of_ne_ready (ne_ready_of_terminal h) _

/-! ## What a refusal is -/

/-- A begun request leaves BUSY = 1, but for SHUTDOWN, which is answered OK (R181, R194). -/
theorem beginRequest_busy_or_ok (r : Request) (s : State) :
    (beginRequest r s).busy = true ∨ (beginRequest r s).lastErr = .ok := by
  cases r with
  | shutdown => exact .inr rfl
  | reset | init | setWindowColor | setPixel => exact .inl rfl

/-- No check of a request raises a transport failure (R185). -/
theorem checkRequest_ne_transportFailure {e : ErrCode} (h : checkRequest r s = some e) : e ≠ .transportFailure := by
  obtain rfl | rfl | ⟨rfl, -⟩ := checkRequest_error h <;> decide

/-- A request answered with an error in the block step that takes it was refused: the step raised an error, and no
transport failure. -/
theorem refusal_of_step (hb : s.busy = false) (hr : s.requests = rq :: rest) (h : step s = .next t)
    (htb : t.busy = false) (hte : t.lastErr ≠ .ok) :
    ∃ e, e ≠ .transportFailure ∧ t = raiseError e { s with requests := rest } := by
  cases hd : decodeRQ rq with
  | none =>
    rw [step_illegal hb hr hd] at h
    cases h
    exact ⟨.illegalRequest, by decide, rfl⟩
  | some r =>
    cases hc : checkRequest r s with
    | some e =>
      rw [step_refused hb hr hd hc] at h
      cases h
      exact ⟨e, checkRequest_ne_transportFailure hc, rfl⟩
    | none =>
      rw [step_accepted hb hr hd hc] at h
      cases h
      obtain hbusy | hok := beginRequest_busy_or_ok r { s with requests := rest }
      · rw [hbusy] at htb; cases htb
      · exact absurd hok hte

/-- The entry action of an error leaves STATE, but for a transport failure and a configuration error (R225). -/
theorem lifecycleAfterError_of_ne {e : ErrCode} (ht : e ≠ .transportFailure) (hc : e ≠ .configurationError)
    (l : Lifecycle) : lifecycleAfterError e l = l := by
  cases e with
  | transportFailure => exact absurd rfl ht
  | configurationError => exact absurd rfl hc
  | ok | notReady | usageViolation | illegalRequest => rfl

end Sys2Proof.Machine

namespace Sys2Proof

open Machine

/-- Settles O20: an error at acceptance is raised by `raiseError`, whose entry action is the only write of STATE. -/
theorem refusalsIssueNothing : Obligations.RefusalsIssueNothing := by
  intro s t rq rest hb hr h htb hte
  obtain ⟨e, ht, rfl⟩ := refusal_of_step hb hr h htb hte
  refine ⟨rfl, rfl, rfl, rfl, rfl, ?_, ?_⟩
  · rintro (rfl : e = _); rfl
  · intro hc; exact lifecycleAfterError_of_ne ht hc s.lifecycle

/-- Settles O17: the decoder's verdict is read before STATE is. -/
theorem illegalWordsAnswered : Obligations.IllegalWordsAnswered := fun _ _ _ hb hr hd =>
  ⟨_, step_illegal hb hr hd, rfl, rfl, rfl, rfl, rfl, rfl, rfl, rfl, rfl, rfl, rfl, rfl⟩

/-- Settles O18: every request's first check fails in a terminal state. -/
theorem terminalStatesAnswerNotReady : Obligations.TerminalStatesAnswerNotReady := by
  intro s rq rest r hb hr hd hl
  have hterminal : isTerminal s.lifecycle = true := by
    obtain hl | hl := hl <;> rw [hl] <;> rfl
  exact ⟨_, step_refused hb hr hd (checkRequest_of_terminal hterminal r), rfl, rfl, rfl, rfl, rfl, rfl, rfl, rfl, rfl⟩

/-- Settles O19: the instruction on offer is that of a pixel request, whose first check fails outside READY. -/
theorem pixelRequestsNeedReady : Obligations.PixelRequestsNeedReady := by
  intro s rq rest i hb hr hd hi hl
  obtain ⟨r, hdecode, rfl⟩ := Option.map_eq_some_iff.mp hd
  have hc : checkRequest r s = some .notReady := by
    cases r with
    | setWindowColor | setPixel => exact pixelCheck_of_ne_ready hl _
    | reset | init | shutdown => simp [Request.instr] at hi
  exact ⟨_, step_refused hb hr hdecode hc, rfl, rfl, rfl, rfl, rfl⟩

end Sys2Proof

/-! PROOFS. A transport that never answers (R262): the block step of an outstanding operation without a response leaves the
state alone, so every run stays where it is. -/

namespace Sys2Proof.Machine

variable {s : State}

/-- An outstanding operation without a response waits: nothing times it out (R41, R262). -/
theorem step_awaiting {op : TransportOp} (hb : s.busy = true) (ho : s.outstanding = some op)
    (hr : s.responses = []) : step s = .next s := by
  rw [step_outstanding hb ho, emitOp_wait ho hr]

/-- No run has ended while a request is in progress (R48). -/
theorem runEnded_of_busy (hb : s.busy = true) : runEnded s = false := by
  rw [runEnded, hb, Bool.not_true, Bool.and_false]

end Sys2Proof.Machine

namespace Sys2Proof

open Machine

/-- Settles O31: the wait is a block step that leaves the state alone, and so is every run of it. -/
theorem hungTransportWaitsForEver : Obligations.HungTransportWaitsForEver := fun _ _ n hb ho hr =>
  ⟨runFor_of_step_self (step_awaiting hb ho hr) n, hb, runEnded_of_busy hb⟩

end Sys2Proof

/-! PROOFS. The decoder and the encoder (30_encoding.md): a word decodes to an instruction exactly when it is the word of
that instruction, channel by channel (R77, R82, R91); and the illegal script step words (R78). -/

namespace Sys2Proof

open Machine

/-! ## The fields of a short word (R75, R90) -/

/-- A short word of a tag and a 32-bit operand, field by field. -/
theorem eq_longWord_iff {w : BitVec 36} {tag : BitVec 4} {ms : BitVec 32} :
    w = tag ++ ms ↔ w.extractLsb' 32 4 = tag ∧ w.extractLsb' 0 32 = ms := by
  have hfields : w = tag ++ ms ↔ w.extractLsb' 0 32 = (tag ++ ms).extractLsb' 0 32 ∧
      w.extractLsb' 32 4 = (tag ++ ms).extractLsb' 32 4 := by
    rw [← field_add_eq_iff 0 32 4, BitVec.extractLsb'_eq_self, BitVec.extractLsb'_eq_self]
  rw [hfields, BitVec.extractLsb'_append_eq_right, BitVec.extractLsb'_append_eq_left, and_comm]

/-- A 32-bit operand of a byte, field by field. -/
theorem extractLsb'_eq_append_byte_iff {w : BitVec 36} {b : Byte} :
    w.extractLsb' 0 32 = (0 : BitVec 24) ++ b ↔ w.extractLsb' 8 24 = 0 ∧ w.extractLsb' 0 8 = b := by
  have hcut : w.extractLsb' 0 32 = w.extractLsb' 8 24 ++ w.extractLsb' 0 8 :=
    (BitVec.extractLsb'_append_extractLsb'_eq_extractLsb' (start₁ := 0) (len₁ := 8) rfl).symm
  rw [hcut]
  constructor
  · intro h
    have hhigh := congrArg (BitVec.extractLsb' 8 24) h
    have hlow := congrArg (BitVec.extractLsb' 0 8) h
    simp only [BitVec.extractLsb'_append_eq_left, BitVec.extractLsb'_append_eq_right] at hhigh hlow
    exact ⟨hhigh, hlow⟩
  · rintro ⟨hhigh, hlow⟩
    rw [hhigh, hlow]

/-- A short word of a tag and a byte, field by field. -/
theorem eq_byteWord_iff {w : BitVec 36} {tag : BitVec 4} {b : Byte} :
    w = tag ++ (0 : BitVec 24) ++ b ↔
      w.extractLsb' 32 4 = tag ∧ w.extractLsb' 8 24 = 0 ∧ w.extractLsb' 0 8 = b := by
  rw [BitVec.append_assoc, ← extractLsb'_eq_append_byte_iff]
  exact eq_longWord_iff

/-- A short word of a tag alone, field by field. -/
theorem eq_tagWord_iff {v w : BitVec 36} {tag : BitVec 4} (hv : v = tag ++ (0 : BitVec 32)) :
    w = v ↔ w.extractLsb' 32 4 = tag ∧ w.extractLsb' 0 32 = 0 := by
  rw [hv, eq_longWord_iff]

/-! ## Script steps (R77, R86) -/

/-- The fields of the word of a script step (R77). -/
theorem eq_scriptStep_word_iff {w : SWWord} {st : ScriptStep} :
    w = st.word ↔
      match st with
      | .start => swTag w = 0x1 ∧ w.extractLsb' 0 32 = 0
      | .cmd b => swTag w = 0x2 ∧ w.extractLsb' 8 24 = 0 ∧ w.extractLsb' 0 8 = b
      | .data b => swTag w = 0x3 ∧ w.extractLsb' 8 24 = 0 ∧ w.extractLsb' 0 8 = b
      | .delay ms => swTag w = 0x4 ∧ w.extractLsb' 0 32 = ms
      | .endMark => swTag w = 0xF ∧ w.extractLsb' 0 32 = 0 := by
  cases st with
  | start | endMark => exact eq_tagWord_iff rfl
  | cmd b | data b => exact eq_byteWord_iff
  | delay ms => exact eq_longWord_iff

/-- A script word decodes to a step exactly when it is the word of that step. -/
theorem decodeSW_eq_some_iff {w : SWWord} {st : ScriptStep} : decodeSW w = some st ↔ w = st.word := by
  rw [eq_scriptStep_word_iff]
  constructor
  · intro h
    simp only [decodeSW] at h
    split at h
    · next hc => cases h; exact hc
    split at h
    · next hc => cases h; exact ⟨hc.1, hc.2, rfl⟩
    split at h
    · next hc => cases h; exact ⟨hc.1, hc.2, rfl⟩
    split at h
    · next hc => cases h; exact ⟨hc, rfl⟩
    split at h
    · next hc => cases h; exact hc
    cases h
  · intro h
    cases st with
    | start | endMark | delay => simp [decodeSW, h]
    | cmd | data => obtain ⟨htag, hzero, rfl⟩ := h; simp [decodeSW, htag, hzero]

/-! ## Transport operations (R91) -/

/-- The fields of the word of a transport operation (R91). -/
theorem eq_transportOp_word_iff {w : TOWord} {op : TransportOp} :
    w = op.word ↔
      match op with
      | .assertReset => w.extractLsb' 32 4 = 0x1 ∧ w.extractLsb' 0 32 = 0
      | .releaseReset => w.extractLsb' 32 4 = 0x2 ∧ w.extractLsb' 0 32 = 0
      | .selectCmd => w.extractLsb' 32 4 = 0x3 ∧ w.extractLsb' 0 32 = 0
      | .selectData => w.extractLsb' 32 4 = 0x4 ∧ w.extractLsb' 0 32 = 0
      | .transfer b => w.extractLsb' 32 4 = 0x5 ∧ w.extractLsb' 8 24 = 0 ∧ w.extractLsb' 0 8 = b
      | .sleep ms => w.extractLsb' 32 4 = 0x6 ∧ w.extractLsb' 0 32 = ms := by
  cases op with
  | assertReset | releaseReset | selectCmd | selectData => exact eq_tagWord_iff rfl
  | transfer b => exact eq_byteWord_iff
  | sleep ms => exact eq_longWord_iff

/-- A TO word decodes to an operation exactly when it is the word of that operation. -/
theorem decodeTO_eq_some_iff {w : TOWord} {op : TransportOp} : decodeTO w = some op ↔ w = op.word := by
  rw [eq_transportOp_word_iff]
  constructor
  · intro h
    simp only [decodeTO] at h
    split at h
    · next hc => cases h; exact hc
    split at h
    · next hc => cases h; exact hc
    split at h
    · next hc => cases h; exact hc
    split at h
    · next hc => cases h; exact hc
    split at h
    · next hc => cases h; exact ⟨hc.1, hc.2, rfl⟩
    split at h
    · next hc => cases h; exact ⟨hc, rfl⟩
    cases h
  · intro h
    cases op with
    | assertReset | releaseReset | selectCmd | selectData | sleep => simp [decodeTO, h]
    | transfer => obtain ⟨htag, hzero, rfl⟩ := h; simp [decodeTO, htag, hzero]

/-! ## Requests (R82, R85) -/

/-- The word of a request has the fields of that request (R82). -/
theorem hasFields_word (r : Request) : HasFields r.word r := by
  cases r with
  | reset | init | shutdown => rfl
  | setWindowColor w color =>
    have hn := toNat_word_setWindowColor w color
    generalize Request.word (.setWindowColor w color) = rq at hn ⊢
    have hx0 : rq.extractLsb' 32 16 = w.x0 := field_eq (by rw [hn]; omega)
    have hy0 : rq.extractLsb' 48 16 = w.y0 := field_eq (by rw [hn]; omega)
    have hx1 : rq.extractLsb' 64 16 = w.x1 := field_eq (by rw [hn]; omega)
    have hy1 : rq.extractLsb' 80 16 = w.y1 := field_eq (by rw [hn]; omega)
    refine ⟨field_eq ?_, field_eq_zero ?_, field_eq_zero ?_, (field_eq ?_).symm, by rw [hx0, hy0, hx1, hy1]⟩
    · rw [hn]; simp; omega
    all_goals rw [hn]; omega
  | setPixel x y color =>
    have hn := toNat_word_setPixel x y color
    generalize Request.word (.setPixel x y color) = rq at hn ⊢
    refine ⟨field_eq ?_, field_eq_zero ?_, field_eq_zero ?_, (field_eq ?_).symm, (field_eq ?_).symm,
      (field_eq ?_).symm⟩
    · rw [hn]; simp; omega
    all_goals rw [hn]; omega

/-- Words with the fields of one request are one word (R82): the fields cover the word. -/
theorem eq_of_hasFields {rq rq' : RQWord} {r : Request} (h : HasFields rq r) (h' : HasFields rq' r) : rq = rq' := by
  cases r with
  | reset | init | shutdown => exact h.trans h'.symm
  | setWindowColor w color =>
    obtain ⟨hopc, hzero, hhigh, rfl, rfl⟩ := h
    obtain ⟨hopc', hzero', hhigh', hcolor, hw⟩ := h'
    injection hw with hx0 hy0 hx1 hy1
    rw [rq_eq_iff_operands 80 (by decide), field_add_eq_iff 16 16 64, field_add_eq_iff 32 16 48,
      field_add_eq_iff 48 16 32, field_add_eq_iff 64 16 16]
    exact ⟨hopc.trans hopc'.symm, hzero.trans hzero'.symm, ⟨hcolor, hx0, hy0, hx1, hy1⟩, hhigh.trans hhigh'.symm⟩
  | setPixel x y color =>
    obtain ⟨hopc, hzero, hhigh, rfl, rfl, rfl⟩ := h
    obtain ⟨hopc', hzero', hhigh', hcolor, hx, hy⟩ := h'
    rw [rq_eq_iff_operands 48 (by decide), field_add_eq_iff 16 16 32, field_add_eq_iff 32 16 16]
    exact ⟨hopc.trans hopc'.symm, hzero.trans hzero'.symm, ⟨hcolor, hx, hy⟩, hhigh.trans hhigh'.symm⟩

/-- A request word decodes to a request exactly when it is the word of that request. -/
theorem decodeRQ_eq_some_iff_word {rq : RQWord} {r : Request} : decodeRQ rq = some r ↔ rq = r.word := by
  rw [decodeRQ_eq_some_iff]
  exact ⟨fun h => eq_of_hasFields h (hasFields_word r), fun h => h ▸ hasFields_word r⟩

theorem decodeRQ_word (r : Request) : decodeRQ r.word = some r := decodeRQ_eq_some_iff_word.mpr rfl

/-! ## Instructions -/

@[simp] theorem encode_request (r : Request) : encode r.instr = .rq r.word := by cases r <;> rfl

@[simp] theorem encode_scriptStep (st : ScriptStep) : encode st.instr = .sw st.word := by cases st <;> rfl

@[simp] theorem encode_transportOp (op : TransportOp) : encode op.instr = .op op.word := by cases op <;> rfl

/-- Every instruction is a request, a script step or a transport operation. -/
theorem instr_cases (i : Instr) :
    (∃ r : Request, i = r.instr) ∨ (∃ st : ScriptStep, i = st.instr) ∨ ∃ op : TransportOp, i = op.instr := by
  cases i with
  | rqReset => exact .inl ⟨.reset, rfl⟩
  | rqInitialize => exact .inl ⟨.init, rfl⟩
  | rqSetWindowColor x0 y0 x1 y1 color => exact .inl ⟨.setWindowColor ⟨x0, y0, x1, y1⟩ color, rfl⟩
  | rqSetPixel x y color => exact .inl ⟨.setPixel x y color, rfl⟩
  | rqShutdown => exact .inl ⟨.shutdown, rfl⟩
  | swStart => exact .inr (.inl ⟨.start, rfl⟩)
  | swCmd b => exact .inr (.inl ⟨.cmd b, rfl⟩)
  | swData b => exact .inr (.inl ⟨.data b, rfl⟩)
  | swDelay ms => exact .inr (.inl ⟨.delay ms, rfl⟩)
  | swEnd => exact .inr (.inl ⟨.endMark, rfl⟩)
  | toAssertReset => exact .inr (.inr ⟨.assertReset, rfl⟩)
  | toReleaseReset => exact .inr (.inr ⟨.releaseReset, rfl⟩)
  | toSelectCmd => exact .inr (.inr ⟨.selectCmd, rfl⟩)
  | toSelectData => exact .inr (.inr ⟨.selectData, rfl⟩)
  | toTransfer b => exact .inr (.inr ⟨.transfer b, rfl⟩)
  | toSleep ms => exact .inr (.inr ⟨.sleep ms, rfl⟩)

/-! ## The tags of a script word (R76, R78) -/

/-- The tags: five name a step, and the others are reserved (R76). -/
theorem tag_cases (tag : BitVec 4) :
    tag = 0x0 ∨ tag = 0x1 ∨ tag = 0x2 ∨ tag = 0x3 ∨ tag = 0x4 ∨ (0x5 ≤ tag.toNat ∧ tag.toNat ≤ 0xE) ∨ tag = 0xF := by
  decide +revert

/-- A word of a reserved TAG is illegal (R78). -/
theorem decodeSW_of_reserved {w : SWWord} (h : 0x5 ≤ (swTag w).toNat ∧ (swTag w).toNat ≤ 0xE) : decodeSW w = none := by
  have hne (tag : BitVec 4) (htag : tag.toNat < 5 ∨ 14 < tag.toNat) : swTag w ≠ tag := by
    rintro rfl; omega
  have h1 := hne 0x1 (by decide)
  have h2 := hne 0x2 (by decide)
  have h3 := hne 0x3 (by decide)
  have h4 := hne 0x4 (by decide)
  have h15 := hne 0xF (by decide)
  simp only [decodeSW, h1, h2, h3, h4, h15, false_and, if_false]

/-- Settles O7: each channel's decoder reads an instruction from its own word. -/
theorem decodeOfEncode : Obligations.DecodeOfEncode := by
  intro i
  obtain ⟨r, rfl⟩ | ⟨st, rfl⟩ | ⟨op, rfl⟩ := instr_cases i
  · rw [encode_request, decode, decodeRQ_word, Option.map_some]
  · rw [encode_scriptStep, decode, decodeSW_eq_some_iff.mpr rfl, Option.map_some]
  · rw [encode_transportOp, decode, decodeTO_eq_some_iff.mpr rfl, Option.map_some]

/-- Settles O8: each channel's decoder reads an instruction from no other word. -/
theorem encodeOfDecode : Obligations.EncodeOfDecode := by
  intro w i h
  cases w with
  | rq w =>
    obtain ⟨r, hd, rfl⟩ := Option.map_eq_some_iff.mp h
    rw [encode_request, decodeRQ_eq_some_iff_word.mp hd]
  | sw w =>
    obtain ⟨st, hd, rfl⟩ := Option.map_eq_some_iff.mp h
    rw [encode_scriptStep, decodeSW_eq_some_iff.mp hd]
  | op w =>
    obtain ⟨op, hd, rfl⟩ := Option.map_eq_some_iff.mp h
    rw [encode_transportOp, decodeTO_eq_some_iff.mp hd]

/-- Settles O10: by the TAG; under a TAG that names a step, the field that must be zero decides. -/
theorem illegalScriptWords : Obligations.IllegalScriptWords := by
  intro w
  change decodeSW w = none ↔ swTag w = 0x0 ∨ (0x5 ≤ (swTag w).toNat ∧ (swTag w).toNat ≤ 0xE) ∨
    ((swTag w = 0x1 ∨ swTag w = 0xF) ∧ w.extractLsb' 0 32 ≠ 0) ∨
    ((swTag w = 0x2 ∨ swTag w = 0x3) ∧ w.extractLsb' 8 24 ≠ 0)
  obtain h | h | h | h | h | h | h := tag_cases (swTag w)
  case inr.inr.inr.inr.inr.inl => simp [decodeSW_of_reserved h, h]
  all_goals simp [decodeSW, h]

/-- Settles O6: the decoder run on each word. -/
theorem sampleWordsDecode : Obligations.SampleWordsDecode := by
  unfold Obligations.SampleWordsDecode
  decide

end Sys2Proof

/-! PROOFS. The walk of a well-formed script (R121, R126, R136): what the check accepts, word by word, and what stands at the
indices the walk can be at. -/

namespace Sys2Proof.Machine

variable {s : State} {m : Memory} {w : SWWord} {i : Nat}

/-! ## The words of a script -/

/-- The body steps are CMD, DATA and DELAY. -/
theorem isBodyStep_iff :
    isBodyStep w = true ↔ (∃ b, decodeSW w = some (.cmd b)) ∨ (∃ b, decodeSW w = some (.data b)) ∨
      ∃ ms, decodeSW w = some (.delay ms) := by
  rcases hd : decodeSW w with _ | st
  · simp [isBodyStep, hd]
  · cases st <;> simp [isBodyStep, hd]

theorem beforeEnd_iff : beforeEnd w = true ↔ w.extractLsb' 32 4 ≠ 0xF := bne_iff_ne

/-- After index 0 stand the body words, then the end words. -/
theorem getElem_succ (m : Memory) (i : Nat) : m[i + 1]? = (bodyWords m ++ endWords m)[i]? := by
  rw [bodyWords_append_endWords, List.getElem?_tail]

/-- The body words stand from index 1 on. -/
theorem getElem_succ_of_body (h : (bodyWords m)[i]? = some w) : m[i + 1]? = some w := by
  rw [getElem_succ, List.getElem?_append_left (List.getElem?_eq_some_iff.mp h).1, h]

/-- At the end index stands the first of the end words. -/
theorem getElem_endIndex (m : Memory) : m[endIndex m]? = (endWords m).head? := by
  rw [endIndex, Nat.add_comm, getElem_succ, List.getElem?_append_right (Nat.le_refl _), Nat.sub_self,
    List.head?_eq_getElem?]

theorem one_le_endIndex (m : Memory) : 1 ≤ endIndex m := Nat.le_add_right 1 _

/-! ## What the walk meets (R136) -/

/-- A word of a well-formed script before the end index, but for word 0, is a body step. -/
theorem bodyStep_at (h : wellFormedScript m = true) (h1 : 1 ≤ i) (h2 : i < endIndex m) :
    ∃ w, m[i]? = some w ∧ beforeEnd w = true ∧ isBodyStep w = true := by
  obtain ⟨w, hw, hbody⟩ := getElem_body_of_wellFormed h h1 h2
  have hmem := List.mem_of_getElem? hbody
  exact ⟨w, hw, beforeEnd_of_mem_bodyWords hmem, isBodyStep_of_mem h hmem⟩

/-- Up to its end index a well-formed script holds legal steps: START at index 0 alone, END at the end index alone. -/
theorem step_at (h : wellFormedScript m = true) (hi : i ≤ endIndex m) :
    ∃ w st, m[i]? = some w ∧ decodeSW w = some st ∧ (st = .start ↔ i = 0) ∧ (st = .endMark ↔ i = endIndex m) := by
  have hend := one_le_endIndex m
  obtain rfl | h1 := Nat.eq_zero_or_pos i
  · obtain ⟨w, hw, hd⟩ := getElem_zero_of_wellFormed h
    exact ⟨w, .start, hw, hd, by simp, by simp; omega⟩
  obtain hlt | rfl := Nat.lt_or_eq_of_le hi
  · obtain ⟨w, hw, -, hstep⟩ := bodyStep_at h h1 hlt
    obtain ⟨b, hd⟩ | ⟨b, hd⟩ | ⟨ms, hd⟩ := isBodyStep_iff.mp hstep
    all_goals exact ⟨w, _, hw, hd, by simp; omega, by simp; omega⟩
  · exact ⟨_, .endMark, getElem_endIndex_of_wellFormed h, decodeSW_eq_some_iff.mpr rfl, by simp; omega, by simp⟩

/-- Wherever the walk stands it meets a legal step, no START, and END at the end index alone. -/
theorem step_of_walkPosition (h : WalkPosition s) :
    ∃ w st, scriptRead s.config.script s.spc = some w ∧ decodeSW w = some st ∧ st ≠ .start ∧
      (st = .endMark ↔ s.spc.toNat = endIndex s.config.script) := by
  obtain ⟨hwf, h1, h2, -⟩ := h
  obtain ⟨w, st, hw, hd, hstart, hend⟩ := step_at hwf h2
  exact ⟨w, st, hw, hd, by rw [Ne, hstart]; omega, hend⟩

/-- The walk stands at no START. -/
theorem ne_start_of_walkPosition (h : WalkPosition s) (hw : scriptRead s.config.script s.spc = some w) :
    decodeSW w ≠ some .start := by
  obtain ⟨v, st, hv, hd, hne, -⟩ := step_of_walkPosition h
  cases hw.symm.trans hv
  rw [hd]
  exact fun he => hne (Option.some.inj he)

/-- A walk that stands at a step with operations stands before the end index. -/
theorem spc_lt_endIndex_of_stepOps {st : ScriptStep} (h : WalkPosition s)
    (hw : scriptRead s.config.script s.spc = some w) (hd : decodeSW w = some st) (hops : stepOps st ≠ []) :
    s.spc.toNat < endIndex s.config.script := by
  obtain ⟨v, st', hv, hd', -, hend⟩ := step_of_walkPosition h
  cases hw.symm.trans hv
  cases hd.symm.trans hd'
  obtain ⟨-, -, hle, -⟩ := h
  refine Nat.lt_of_le_of_ne hle fun he => ?_
  rw [hend.mpr he] at hops
  exact hops rfl

end Sys2Proof.Machine

namespace Sys2Proof

open Machine

/-- Settles O35: word 0, the body words and the word at the end index, in turn; the walk is past the first. -/
theorem walkMeetsOnlyLegalSteps : Obligations.WalkMeetsOnlyLegalSteps :=
  ⟨fun _ hwf _ hi => step_at hwf hi,
    fun _ hs hb hh => step_of_walkPosition (walkPosition_of_consistent hs hb hh)⟩

/-- Settles O51: the end index is the length of the body words and one, so the words before it are the body words and the
word at it is the first of the end words. -/
theorem wellFormedScriptExactly : Obligations.WellFormedScriptExactly := by
  intro m
  constructor
  · intro h
    have hlt := endIndex_lt h
    have hend := one_le_endIndex m
    obtain ⟨first, hfirst, hd⟩ := getElem_zero_of_wellFormed h
    rw [decodeSW_eq_some_iff.mp hd] at hfirst
    refine ⟨by omega, hfirst, endIndex m, hend, getElem_endIndex_of_wellFormed h, rfl, fun i h1 h2 => ?_⟩
    obtain ⟨w, hw, hbefore, hstep⟩ := bodyStep_at h h1 h2
    exact ⟨w, hw, beforeEnd_iff.mp hbefore, isBodyStep_iff.mp hstep⟩
  · rintro ⟨hlen, hfirst, e, -, hlast, rfl, hbody⟩
    have hstart : m.head?.bind decodeSW = some .start := by
      rw [List.head?_eq_getElem?, hfirst]
      exact decodeSW_eq_some_iff.mpr rfl
    have hall : (bodyWords m).all isBodyStep = true := by
      refine List.all_eq_true.mpr fun w hw => ?_
      obtain ⟨i, hi⟩ := List.mem_iff_getElem?.mp hw
      have hlt : i < (bodyWords m).length := (List.getElem?_eq_some_iff.mp hi).1
      obtain ⟨v, hv, -, hstep⟩ := hbody (i + 1) (by omega) (by rw [endIndex]; omega)
      cases (getElem_succ_of_body hi).symm.trans hv
      exact isBodyStep_iff.mpr hstep
    have hend : (endWords m).head? = some (ScriptStep.word .endMark) := by rw [← getElem_endIndex, hlast]; rfl
    simp [wellFormedScript, hlen, hstart, hend, hall]

end Sys2Proof

/-! PROOFS. Consistency: where a body stands, and what each kind of block step leaves there (R22, R26, R30, R126, R156); from
a consistent state the fetch finds a step (R136), and the step is one of R58's kinds. -/

namespace Sys2Proof.Machine

variable {s t : State}

/-! ## The position in a body -/

/-- The position in a body is read from the request held, STATE, the configuration and the burst, and in the walk from
SPC and what is still to be issued or answered. -/
theorem bodyPosition_of_eq (h : BodyPosition s) (hh : t.held = s.held) (hl : t.lifecycle = s.lifecycle)
    (hc : t.config = s.config) (hu : t.burst = s.burst)
    (hw : s.held = some .init → WalkPosition s → WalkPosition t) : BodyPosition t := by
  unfold BodyPosition at h ⊢
  rw [hh, hl]
  split at h
  · exact h
  · rwa [hu]
  · next hheld =>
    obtain ⟨hlife, hburst, hwalk⟩ := h
    exact ⟨hlife, hu.trans hburst, hw hheld hwalk⟩
  · rwa [hc, BurstPosition, hu]
  · rwa [hc, hu]
  · exact h

/-- A body holds no INITIALIZE outside SCRIPT_RUNNING, and another request only outside it (R22). -/
theorem held_init_iff_of_bodyPosition (h : BodyPosition s) :
    s.held = some .init ↔ s.lifecycle = .scriptRunning := by
  unfold BodyPosition at h
  split at h
  · exact h.elim
  · next hh => simp [hh, h.1]
  · next hh => simp [hh, h.1]
  · next hh => simp [hh, h.1]
  · next hh => simp [hh, h.1]
  · exact h.elim

theorem ne_shutdown_of_bodyPosition (h : BodyPosition s) : s.lifecycle ≠ .shutdown := by
  obtain hl | hl | hl := lifecycle_of_bodyPosition h <;> simp [hl]

theorem walkPosition_of_bodyPosition (h : BodyPosition s) (hh : s.held = some .init) : WalkPosition s := by
  simp only [BodyPosition, hh] at h
  obtain ⟨-, -, hwalk⟩ := h
  exact hwalk

/-- The walk of a legal configuration does not reach the last index a 16-bit SPC can hold. -/
theorem endIndex_lt_65535 {c : Config} (hc : c.wellFormed = true) (hwf : wellFormedScript c.script = true) :
    endIndex c.script < 65535 := by
  have hlt := endIndex_lt hwf
  simp only [Config.wellFormed, Memory.wf, Bool.and_eq_true, decide_eq_true_eq] at hc
  omega

/-- SPC moves on without wrapping, in the walk of a legal configuration (R126). -/
theorem toNat_spc_succ {c : Config} {spc : Half} (hc : c.wellFormed = true) (hwf : wellFormedScript c.script = true)
    (h : spc.toNat < endIndex c.script) : (spc + 1).toNat = spc.toNat + 1 := by
  have hlt := endIndex_lt_65535 hc hwf
  exact toNat_add_ofNat (n := 1) (by omega)

/-! ## The position after each kind of block step -/

/-- The body of a request whose checks pass begins at its first position (R188, R126, R155, R192). -/
theorem bodyPosition_beginRequest {r : Request} (hr : r ≠ .shutdown) (h : checkRequest r s = none) :
    BodyPosition (beginRequest r s) := by
  have hpass := checkRequest_pass h
  cases r with
  | reset => exact ⟨rfl, rfl⟩
  | init =>
    obtain ⟨-, hwf⟩ := hpass
    exact ⟨rfl, rfl, hwf, Nat.le_refl 1, one_le_endIndex _, by rintro (hp | ho) <;> contradiction⟩
  | setWindowColor w color =>
    obtain ⟨hl, hv⟩ := hpass
    refine ⟨hl, hv, ?_⟩
    rintro p hp
    cases hp
    exact ⟨Nat.mul_pos (windowWidth_pos w) (Nat.succ_pos _), (pixelAt_zero w).symm⟩
  | setPixel x y color =>
    obtain ⟨hl, hv⟩ := hpass
    exact ⟨hl, rfl, hv⟩
  | shutdown => exact absurd rfl hr

/-- An issue leaves the body in position, where in the walk SPC stands before the end index. -/
theorem bodyPosition_issueOp (h : BodyPosition s) (op : TransportOp) (ops : List TransportOp)
    (hw : s.held = some .init → s.spc.toNat < endIndex s.config.script) :
    BodyPosition (issueOp op { s with pending := ops }) := by
  refine bodyPosition_of_eq h rfl rfl rfl rfl fun hh hwalk => ?_
  obtain ⟨hwf, h1, h2, -⟩ := hwalk
  exact ⟨hwf, h1, h2, fun _ => hw hh⟩

theorem validWindow_le {c : Config} {w : Window} (h : validWindow c w = true) :
    w.x0.toNat ≤ w.x1.toNat ∧ w.y0.toNat ≤ w.y1.toNat := by
  simp only [validWindow, Bool.and_eq_true, decide_eq_true_eq] at h
  obtain ⟨⟨⟨hx, -⟩, hy⟩, -⟩ := h
  exact ⟨hx, hy⟩

/-- The issue of a pixel's first operation leaves the counters at the next pixel (R156). -/
theorem bodyPosition_pixel {p : PixelCounters} {w : Window} {color : Half} (h : BodyPosition s)
    (hu : s.burst = some p) (hh : s.held = some (.setWindowColor w color)) (op : TransportOp) (ops : List TransportOp) :
    BodyPosition (issueOp op { s with pending := ops, burst := nextPixel w p }) := by
  simp only [BodyPosition, hh] at h
  obtain ⟨hl, hv, hpos⟩ := h
  obtain ⟨hk, hp⟩ := hpos p hu
  obtain ⟨hx, hy⟩ := validWindow_le hv
  simp only [BodyPosition, issueOp_held, hh]
  refine ⟨hl, hv, ?_⟩
  intro q hq
  change nextPixel w p = some q at hq
  rw [hp, nextPixel_pixelAt hx hy hk] at hq
  split at hq
  · next hlt => cases hq; exact ⟨hlt, rfl⟩
  · cases hq

/-- A receipt leaves the body in position; at the end of a script step SPC, which stood before the end index, moves on. -/
theorem bodyPosition_receive {op : TransportOp} (hc : s.config.wellFormed = true) (h : BodyPosition s)
    (ho : s.outstanding = some op) (tr : TRWord) (rest : List TRWord) :
    BodyPosition (receiveResponse op tr rest s) := by
  refine bodyPosition_of_eq h (by simp) (by simp) (by simp) (by simp) fun hh hwalk => ?_
  obtain ⟨hwf, h1, h2, hbefore⟩ := hwalk
  have hlt := hbefore (.inr (by simp [ho]))
  have hsucc := toNat_spc_succ hc hwf hlt
  simp only [WalkPosition, receiveResponse_config, receiveResponse_spc, receiveResponse_pending,
    receiveResponse_outstanding]
  refine ⟨hwf, ?_⟩
  split
  · exact ⟨h1, h2, fun _ => hlt⟩
  · split
    · next hgroup =>
      obtain ⟨hp, -⟩ := hgroup
      exact ⟨by omega, by omega, by simp [hp]⟩
    · exact ⟨h1, h2, fun _ => hlt⟩

/-! ## Consistency -/

/-- A consistent state with a body in progress and the same configuration, OWNED and STATE as a consistent one. -/
theorem consistent_of_busy (hs : Consistent s) (hb : t.busy = true) (hc : t.config = s.config)
    (ho : t.owned = s.owned) (hl : t.lifecycle = s.lifecycle) (hf : t.failed = true → t.outstanding = none)
    (hp : BodyPosition t) : Consistent t := by
  obtain ⟨hconf, howned, -⟩ := hs
  exact ⟨by rw [hc]; exact hconf, by rw [ho, hl]; exact howned, hf, fun _ => hp, by simp [hb]⟩

/-- A delivery leaves a consistent state, where OWNED is released in SHUTDOWN alone and no walk is in progress. -/
theorem consistent_finish (e : ErrCode) (hc : s.config.wellFormed = true)
    (ho : s.owned = false ↔ s.lifecycle = .shutdown) (hl : s.lifecycle ≠ .scriptRunning) :
    Consistent (finish e s) :=
  ⟨hc, ho, fun _ => rfl, by simp, fun _ => ⟨⟨rfl, rfl, rfl, rfl, rfl⟩, hl⟩⟩

/-- OWNED is 1 in every STATE but SHUTDOWN. -/
theorem owned_of_ne_shutdown (hs : Consistent s) {l : Lifecycle} (h : s.lifecycle ≠ .shutdown) (hl : l ≠ .shutdown) :
    s.owned = false ↔ l = .shutdown := by
  obtain ⟨-, howned, -⟩ := hs
  simp [howned, h, hl]

/-- An error raised outside SHUTDOWN whose entry action is FAULTED leaves a consistent state (R223, R224). -/
theorem consistent_fault {e : ErrCode} (hs : Consistent s) (h : s.lifecycle ≠ .shutdown)
    (he : lifecycleAfterError e s.lifecycle = .faulted) (rest : List RQWord) :
    Consistent (raiseError e { s with requests := rest }) := by
  obtain ⟨hc, -⟩ := id hs
  refine consistent_finish e hc ?_ ?_
  · rw [he]; exact owned_of_ne_shutdown hs h (l := .faulted) (by decide)
  · rw [he]; exact (by decide : Lifecycle.faulted ≠ .scriptRunning)

/-- An error whose entry action leaves STATE leaves a consistent state, where no body is in progress (R225). -/
theorem consistent_answer {e : ErrCode} (hs : Consistent s) (hb : s.busy = false)
    (he : lifecycleAfterError e s.lifecycle = s.lifecycle) (rest : List RQWord) :
    Consistent (raiseError e { s with requests := rest }) := by
  obtain ⟨hc, howned, -, -, hidle⟩ := hs
  obtain ⟨-, hl⟩ := hidle hb
  exact consistent_finish e hc (by rw [he]; exact howned) (by rw [he]; exact hl)

/-- A refused request leaves a consistent state. -/
theorem consistent_refused {r : Request} {e : ErrCode} (hs : Consistent s) (hb : s.busy = false)
    (hc : checkRequest r s = some e) (rest : List RQWord) : Consistent (raiseError e { s with requests := rest }) := by
  obtain rfl | rfl | ⟨rfl, -, hl, -⟩ := checkRequest_error hc
  · exact consistent_answer hs hb rfl rest
  · exact consistent_answer hs hb rfl rest
  · exact consistent_fault hs (by rw [hl]; decide) rfl rest

/-- A begun request leaves a consistent state: its body in progress, in a STATE other than SHUTDOWN, or SHUTDOWN's answer. -/
theorem consistent_beginRequest {r : Request} (hs : Consistent s) (h : checkRequest r s = none) :
    Consistent (beginRequest r s) := by
  obtain ⟨hc, howned, -⟩ := id hs
  have hpass := checkRequest_pass h
  have hbody (hr : r ≠ .shutdown) := bodyPosition_beginRequest hr h
  cases r with
  | shutdown => exact consistent_finish .ok hc (by simp) (by simp)
  | reset =>
    have ho := owned_of_ne_shutdown hs (l := .resetting) (by rw [hpass]; decide) (by decide)
    exact ⟨hc, ho, fun _ => rfl, fun _ => hbody (by simp), fun hb => nomatch hb⟩
  | init =>
    obtain ⟨hl, -⟩ := hpass
    have ho := owned_of_ne_shutdown hs (l := .scriptRunning) (by rw [hl]; decide) (by decide)
    exact ⟨hc, ho, fun _ => rfl, fun _ => hbody (by simp), fun hb => nomatch hb⟩
  | setWindowColor | setPixel =>
    exact ⟨hc, howned, fun _ => rfl, fun _ => hbody (by simp), fun hb => nomatch hb⟩

/-- What the host offers does not bear on consistency. -/
theorem consistent_requests (hs : Consistent s) (rest : List RQWord) : Consistent { s with requests := rest } := hs

/-- Every block step keeps a consistent state consistent. -/
theorem consistent_step (hs : Consistent s) (h : step s = .next t) : Consistent t := by
  obtain ⟨hc, -, hfail, hbody, -⟩ := id hs
  cases blockStep_of_step h with
  | noRequest | waiting => exact hs
  | illegal rq rest hb => exact consistent_answer hs hb rfl rest
  | refused rq rest r e hb hr hd he => exact consistent_refused hs hb he rest
  | accepted rq rest r hb hr hd he =>
    exact consistent_beginRequest (consistent_requests hs rest) (by rw [checkRequest_requests]; exact he)
  | receive op tr rest hb ho hr =>
    exact consistent_of_busy hs (by simp [hb]) (by simp) (by simp) (by simp) (by simp)
      (bodyPosition_receive hc (hbody hb) ho tr rest)
  | failure hb => exact consistent_fault hs (ne_shutdown_of_bodyPosition (hbody hb)) rfl s.requests
  | issue op ops hb ho hf hp =>
    refine consistent_of_busy hs hb rfl rfl rfl (by simp [hf]) (bodyPosition_issueOp (hbody hb) op ops fun hh => ?_)
    obtain ⟨-, -, -, hbefore⟩ := walkPosition_of_bodyPosition (hbody hb) hh
    exact hbefore (.inl (by simp [hp]))
  | pixel p w color op ops hb ho hf hp hu hh hg =>
    exact consistent_of_busy hs hb rfl rfl rfl (by simp [hf]) (bodyPosition_pixel (hbody hb) hu hh op ops)
  | start w hb ho hf hp hh hw hd =>
    exact absurd hd (ne_start_of_walkPosition (walkPosition_of_bodyPosition (hbody hb) hh) hw)
  | endMark w hb ho hf hp hh hw hd =>
    exact consistent_finish .ok hc
      (owned_of_ne_shutdown hs (ne_shutdown_of_bodyPosition (hbody hb)) (l := .ready) (by decide)) (by simp)
  | scriptStep w st op ops hb ho hf hp hh hw hd hg =>
    exact consistent_of_busy hs hb rfl rfl rfl (by simp [hf]) (bodyPosition_issueOp (hbody hb) op ops fun _ =>
      spc_lt_endIndex_of_stepOps (walkPosition_of_bodyPosition (hbody hb) hh) hw hd (by simp [hg]))
  | finished hb ho hf hp hl hh =>
    exact consistent_finish .ok hc (owned_of_ne_shutdown hs (ne_shutdown_of_bodyPosition (hbody hb))
      (ne_shutdown_of_bodyPosition (hbody hb))) (by rwa [Ne, ← held_init_iff_of_bodyPosition (hbody hb)])

/-! ## Progress (R136) -/

/-- Where the walk finds a step to fetch, the block does not stop. -/
theorem step_progress (hwalk : s.busy = true → s.held = some .init →
      ∃ w st, scriptRead s.config.script s.spc = some w ∧ decodeSW w = some st) : ∃ t, step s = .next t := by
  rcases hb : s.busy with _ | _
  · rcases hr : s.requests with _ | ⟨rq, rest⟩
    · exact ⟨_, step_noRequest hb hr⟩
    · rcases hd : decodeRQ rq with _ | r
      · exact ⟨_, step_illegal hb hr hd⟩
      · exact ⟨_, (step_request hb hr hd).trans (exec_request (by exact hb) r)⟩
  · rcases ho : s.outstanding with _ | op
    · rcases hf : s.failed with _ | _
      · rcases hp : (loadPixel s).pending with _ | ⟨op, ops⟩
        · by_cases hh : s.held = some .init
          · obtain ⟨w, st, hw, hd⟩ := hwalk hb hh
            rw [step_script hb ho hf hp hh hw hd]
            rcases hs : stepOps st with _ | ⟨first, others⟩
            · cases st with
              | start | endMark => exact ⟨_, rfl⟩
              | cmd | data | delay => cases hs
            · exact ⟨_, (exec_step_group hs s).trans (emitGroup_issue ho first others)⟩
          · exact ⟨_, step_finish hb ho hf hp hh⟩
        · exact ⟨_, step_issue hb ho hf hp⟩
      · exact ⟨_, step_failed hb ho hf⟩
    · rcases hr : s.responses with _ | ⟨tr, rest⟩
      · exact ⟨_, (step_outstanding hb ho).trans (emitOp_wait ho hr)⟩
      · exact ⟨_, (step_outstanding hb ho).trans (emitOp_receive ho hr)⟩

theorem step_progress_of_consistent (hs : Consistent s) : ∃ t, step s = .next t :=
  step_progress fun hb hh => by
    obtain ⟨w, st, hw, hd, -⟩ := step_of_walkPosition (walkPosition_of_consistent hs hb hh)
    exact ⟨w, st, hw, hd⟩

/-! ## The kinds of block step (R58) -/

/-- What an accepting step leaves of the channels of the transport: everything. -/
theorem beginRequest_channels (r : Request) (s : State) :
    (beginRequest r s).requests = s.requests ∧ (beginRequest r s).answered = s.answered ∧
      (beginRequest r s).responses = s.responses := by
  cases r <;> exact ⟨rfl, rfl, rfl⟩

/-- What the receipt of a response with FAIL = 0 does to every field. -/
theorem receiveResponse_ok {tr : TRWord} (htr : trFail tr = false) (op : TransportOp) (rest : List TRWord) (s : State) :
    receiveResponse op tr rest s =
      { s with
        outstanding := none, responses := rest, answered := s.answered ++ [tr]
        busMode := busModeAfter op false s.busMode
        spc := if s.pending = [] ∧ s.held = some .init then s.spc + 1 else s.spc } := by
  simp only [receiveResponse, htr, Bool.false_eq_true, if_false, endOfGroup]
  split <;> rfl

/-- What the receipt of a response with FAIL = 1 does to every field. -/
theorem receiveResponse_fail {tr : TRWord} (htr : trFail tr = true) (op : TransportOp) (rest : List TRWord) (s : State) :
    receiveResponse op tr rest s =
      { s with
        outstanding := none, responses := rest, answered := s.answered ++ [tr], failed := true
        busMode := busModeAfter op true s.busMode } := by
  simp only [receiveResponse, htr, if_true]

/-- The fields a receipt writes, while no failure is raised (R100). -/
theorem receiveResponse_frame (op : TransportOp) (tr : TRWord) (rest : List TRWord) (hf : s.failed = false) :
    receiveResponse op tr rest s =
      { s with
        outstanding := none, responses := rest, answered := s.answered ++ [tr], failed := trFail tr
        busMode := (receiveResponse op tr rest s).busMode, spc := (receiveResponse op tr rest s).spc } := by
  rcases htr : trFail tr with _ | _
  · rw [receiveResponse_ok htr, hf]
  · rw [receiveResponse_fail htr]

/-- The fields a delivery writes, while nothing is outstanding (R182). -/
theorem finish_frame (e : ErrCode) (ho : s.outstanding = none) :
    finish e s =
      { s with
        lastErr := e, busy := false, held := none, pending := [], burst := none, failed := false
        replies := s.replies ++ [rsWord s.lifecycle e] } := by
  simp only [finish, ho]

end Sys2Proof.Machine

namespace Sys2Proof

open Machine

/-- Settles O33: by the kind of block step. -/
theorem consistentKept : Obligations.ConsistentKept := fun _ _ => consistent_step

/-- Settles O34: the walk of a consistent state finds a step, and each kind of block step has its frame. -/
theorem consistentNeverStops : Obligations.ConsistentNeverStops := by
  intro s hs
  obtain ⟨t, h⟩ := step_progress_of_consistent hs
  refine ⟨t, h, ?_⟩
  obtain ⟨-, -, hfail, hbody, -⟩ := id hs
  cases blockStep_of_step h with
  | noRequest hb hr => exact .inl ⟨rfl, .inl ⟨hb, hr⟩⟩
  | waiting op hb ho hr => exact .inl ⟨rfl, .inr ⟨by simp [ho], hr⟩⟩
  | illegal rq rest hb hr | refused rq rest r e hb hr => exact .inr (.inl ⟨hb, rq, hr, rfl, rfl, rfl⟩)
  | accepted rq rest r hb hr =>
    obtain ⟨hrequests, hanswered, hresponses⟩ := beginRequest_channels r { s with requests := rest }
    exact .inr (.inl ⟨hb, rq, by rw [hrequests, hr], beginRequest_issued .., hanswered, hresponses⟩)
  | issue op ops hb ho hf | pixel _ _ _ op ops hb ho hf | scriptStep _ _ op ops hb ho hf =>
    exact .inr (.inr (.inl ⟨hb, ho, hf, op, rfl⟩))
  | receive op tr rest hb ho hr =>
    have hf : s.failed = false := by
      by_contra hf
      simp [hfail (by simpa using hf)] at ho
    exact .inr (.inr (.inr (.inl ⟨hb, by simp [ho], tr, by simp [hr],
      by rw [receiveResponse_responses]; exact receiveResponse_frame op tr rest hf⟩)))
  | failure hb ho | endMark w hb ho | finished hb ho =>
    exact .inr (.inr (.inr (.inr ⟨hb, ho, _, finish_frame _ ho⟩)))
  | start w hb ho hf hp hh hw hd =>
    exact absurd hd (ne_start_of_walkPosition (walkPosition_of_bodyPosition (hbody hb) hh) hw)

/-- Settles O47: SPC is written by INITIALIZE's acceptance and at the end of a script step, which stood before the end
index. -/
theorem spcOnlyRestartsOrAdvances : Obligations.SpcOnlyRestartsOrAdvances := by
  intro s t hs h
  obtain ⟨hc, -, -, hbody, -⟩ := id hs
  cases blockStep_of_step h with
  | accepted rq rest r hb hr hd he =>
    cases r with
    | init => exact .inr (.inl ⟨rfl, hb, (checkRequest_pass he).1, rfl, rfl⟩)
    | reset | setWindowColor | setPixel | shutdown => exact .inl rfl
  | receive op tr rest hb ho hr =>
    rw [receiveResponse_spc]
    rcases htr : trFail tr with _ | _
    · by_cases hgroup : s.pending = [] ∧ s.held = some .init
      · obtain ⟨hp, hh⟩ := id hgroup
        obtain ⟨hwf, -, -, hbefore⟩ := walkPosition_of_bodyPosition (hbody hb) hh
        rw [if_neg (by decide), if_pos hgroup]
        exact .inr (.inr ⟨toNat_spc_succ hc hwf (hbefore (.inr (by simp [ho]))), hb, hh, tr, htr,
          receiveResponse_answered ..⟩)
      · rw [if_neg (by decide), if_neg hgroup]
        exact .inl rfl
    · exact .inl rfl
  | start w hb ho hf hp hh hw hd =>
    exact absurd hd (ne_start_of_walkPosition (walkPosition_of_bodyPosition (hbody hb) hh) hw)
  | _ => exact .inl rfl

/-- Settles O32: the construction is idle, owned, in UNINIT, and its trace is empty. -/
theorem constructionIsConsistent : Obligations.ConstructionIsConsistent := by
  intro c hc
  refine ⟨⟨hc, by simp, fun _ => rfl, by simp, fun _ => ⟨⟨rfl, rfl, rfl, rfl, rfl⟩, by simp⟩⟩,
    ⟨rfl, fun op ho => nomatch ho⟩, fun _ => rfl, ?_, rfl⟩
  intro i w hw
  simp at hw

end Sys2Proof

/-! PROOFS. The trace: what a block step does to the operations issued and answered, said once (R42, R100), and with it that
the trace stays in step, that BUSMODE is the mode it leaves (R46), and that its TRANSFERs follow selects (R109). -/

namespace Sys2Proof.Machine

variable {s t : State}

/-! ## The moves of the trace -/

/-- What a block step from `s` does to the trace: nothing; the issue of an operation, the first of those pending or of a
group newly begun; or the receipt of the response to the operation outstanding. -/
inductive TraceMove (s t : State) : Prop
  | quiet (hi : t.issued = s.issued) (ha : t.answered = s.answered) (hm : t.busMode = s.busMode)
      (ho : t.outstanding = s.outstanding)
      (hp : (t.pending = s.pending ∧ t.failed = s.failed) ∨ framed false t.pending = true)
  | issue (op : TransportOp) (ho : s.outstanding = none) (hf : s.failed = false) (hi : t.issued = s.issued ++ [op.word])
      (ha : t.answered = s.answered) (hm : t.busMode = s.busMode) (ho' : t.outstanding = some op)
      (hp : s.pending = op :: t.pending ∨ framed false (op :: t.pending) = true)
  | receive (op : TransportOp) (tr : TRWord) (ho : s.outstanding = some op) (hi : t.issued = s.issued)
      (ha : t.answered = s.answered ++ [tr]) (hm : t.busMode = busModeAfter op (trFail tr) s.busMode)
      (ho' : t.outstanding = none) (hp : t.pending = s.pending) (hf : t.failed = if trFail tr then true else s.failed)

/-- The operations a request begins with are framed (R107, R108). -/
theorem framed_beginRequest (r : Request) (s : State) : framed false (beginRequest r s).pending = true := by
  cases r with
  | reset | init | setWindowColor | shutdown => rfl
  | setPixel x y color =>
    simp only [beginRequest, beginBody_pending, setPixelSequence]
    exact framed_append rfl (by split <;> rfl)

/-- The acceptance of a request leaves the trace and BUSMODE, and nothing outstanding. -/
theorem beginRequest_trace (r : Request) (s : State) :
    (beginRequest r s).answered = s.answered ∧ (beginRequest r s).busMode = s.busMode ∧
      (beginRequest r s).outstanding = none := by
  cases r <;> exact ⟨rfl, rfl, rfl⟩

/-- Every block step makes one of the moves of the trace, where nothing is outstanding while BUSY = 0. -/
theorem traceMove_of_step (hi : s.busy = false → s.outstanding = none) (h : step s = .next t) : TraceMove s t := by
  cases blockStep_of_step h with
  | noRequest | waiting => exact .quiet rfl rfl rfl rfl (.inl ⟨rfl, rfl⟩)
  | illegal rq rest hb | refused rq rest r e hb => exact .quiet rfl rfl rfl (hi hb).symm (.inr rfl)
  | accepted rq rest r hb =>
    obtain ⟨ha, hm, ho⟩ := beginRequest_trace r { s with requests := rest }
    exact .quiet (beginRequest_issued ..) ha hm (ho.trans (hi hb).symm) (.inr (framed_beginRequest r _))
  | failure hb ho | endMark w hb ho | finished hb ho => exact .quiet rfl rfl rfl ho.symm (.inr rfl)
  | start => exact .quiet rfl rfl rfl rfl (.inl ⟨rfl, rfl⟩)
  | receive op tr rest hb ho hr => exact .receive op tr ho (by simp) (by simp) (by simp) (by simp) (by simp) (by simp)
  | issue op ops hb ho hf hp => exact .issue op ho hf rfl rfl rfl rfl (.inl hp)
  | pixel p w color op ops hb ho hf hp hu hh hg =>
    exact .issue op ho hf rfl rfl rfl rfl (.inr (hg ▸ framed_pixelGroup ..))
  | scriptStep w st op ops hb ho hf hp hh hw hd hs =>
    exact .issue op ho hf rfl rfl rfl rfl (.inr (hs ▸ framed_stepOps st))

/-! ## The trace in step (R42) -/

/-- With nothing outstanding, every operation issued is answered. -/
theorem length_issued_of_none (hs : TraceInStep s) (ho : s.outstanding = none) :
    s.issued.length = s.answered.length := by
  obtain ⟨hlen, -⟩ := hs
  simpa [ho] using hlen

/-- With an operation outstanding, the trace is the answered operations and that one. -/
theorem issued_of_outstanding {op : TransportOp} (hs : TraceInStep s) (ho : s.outstanding = some op) :
    ∃ ws, s.issued = ws ++ [op.word] ∧ ws.length = s.answered.length := by
  obtain ⟨hlen, hlast⟩ := hs
  obtain ⟨ws, hws⟩ := List.getLast?_eq_some_iff.mp (hlast op ho)
  refine ⟨ws, hws, ?_⟩
  rw [hws, ho] at hlen
  simpa using hlen

theorem traceInStep_of_move (hs : TraceInStep s) (h : TraceMove s t) : TraceInStep t := by
  cases h with
  | quiet hi ha hm ho => rw [TraceInStep, hi, ha, ho]; exact hs
  | issue op ho hf hi ha hm ho' =>
    have hlen := length_issued_of_none hs ho
    rw [TraceInStep, hi, ha, ho']
    exact ⟨by simp [hlen], fun op' he => by cases he; simp⟩
  | receive op tr ho hi ha hm ho' =>
    obtain ⟨ws, hws, hlen⟩ := issued_of_outstanding hs ho
    rw [TraceInStep, hi, ha, ho', hws]
    exact ⟨by simp [hlen], fun op' he => nomatch he⟩

/-! ## BUSMODE (R46) -/

/-- BUSMODE after one answered operation, as the trace's word and response say it. -/
theorem modeOfTrace_append (trace : List (TOWord × TRWord)) (op : TransportOp) (tr : TRWord) :
    modeOfTrace (trace ++ [(op.word, tr)]) = busModeAfter op (trFail tr) (modeOfTrace trace) := by
  simp only [modeOfTrace, List.foldl_append, List.foldl_cons, List.foldl_nil]
  cases op with
  | transfer b => obtain ⟨hcmd, hdata⟩ := transfer_word_ne b; rw [if_neg hcmd, if_neg hdata]; rfl
  | sleep ms => obtain ⟨hcmd, hdata⟩ := sleep_word_ne ms; rw [if_neg hcmd, if_neg hdata]; rfl
  | assertReset | releaseReset | selectCmd | selectData => rfl

/-- An operation issued and not yet answered is no part of the answered trace. -/
theorem zip_append_unanswered {ws : List TOWord} {trs : List TRWord} (h : ws.length = trs.length) (w : TOWord) :
    (ws ++ [w]).zip trs = ws.zip trs := by
  have hzip := List.zip_append (r₁ := [w]) (r₂ := ([] : List TRWord)) h
  rwa [List.zip_nil_right, List.append_nil, List.append_nil] at hzip

theorem busMode_of_move (hs : TraceInStep s) (hmode : s.busMode = modeOfTrace (s.issued.zip s.answered))
    (h : TraceMove s t) : t.busMode = modeOfTrace (t.issued.zip t.answered) := by
  cases h with
  | quiet hi ha hm => rw [hi, ha, hm, hmode]
  | issue op ho hf hi ha hm =>
    rw [hi, ha, hm, hmode, zip_append_unanswered (length_issued_of_none hs ho)]
  | receive op tr ho hi ha hm =>
    obtain ⟨ws, hws, hlen⟩ := issued_of_outstanding hs ho
    rw [hws, zip_append_unanswered hlen] at hmode
    rw [hi, ha, hm, hmode, hws, List.zip_append hlen]
    exact (modeOfTrace_append (ws.zip s.answered) op tr).symm

/-! ## Selects and TRANSFERs (R109) -/

theorem isSelectWord_word (op : TransportOp) : isSelectWord op.word = isSelect op := by
  cases op with
  | transfer b =>
    obtain ⟨hcmd, hdata⟩ := transfer_word_ne b
    rw [isSelectWord, beq_false_of_ne hcmd, beq_false_of_ne hdata]
    rfl
  | sleep ms =>
    obtain ⟨hcmd, hdata⟩ := sleep_word_ne ms
    rw [isSelectWord, beq_false_of_ne hcmd, beq_false_of_ne hdata]
    rfl
  | assertReset | releaseReset | selectCmd | selectData => rfl

/-- The word of an operation is a TRANSFER word when the operation is a TRANSFER. -/
theorem eq_transfer_of_isTransferWord {op : TransportOp} (h : isTransferWord op.word = true) :
    ∃ b, op = .transfer b := by
  cases op with
  | transfer b => exact ⟨b, rfl⟩
  | sleep ms =>
    have hkind : (TransportOp.word (.sleep ms)).extractLsb' 32 4 = 6 := BitVec.extractLsb'_append_eq_left
    simp [isTransferWord, hkind] at h
  | assertReset | releaseReset | selectCmd | selectData => exact absurd h (by decide)

/-- A sequence that begins with a TRANSFER is framed only after a select. -/
theorem afterSelect_of_framed_transfer {afterSelect : Bool} {b : Byte} {ops : List TransportOp}
    (h : framed afterSelect (.transfer b :: ops) = true) : afterSelect = true := by
  cases afterSelect with
  | true => rfl
  | false => simp [framed] at h

/-- Where a select stands and nothing is outstanding, the trace ends in a select that succeeded. -/
theorem last_of_selectStands (ho : s.outstanding = none) (h : selectStands s = true) :
    (∃ v, s.issued.getLast? = some v ∧ isSelectWord v = true) ∧
      ∃ tr, s.answered.getLast? = some tr ∧ trFail tr = false := by
  simpa only [selectStands, ho, Bool.and_eq_true, Option.any_eq_true, Bool.not_eq_true'] using h

/-- The operation a block step issues is framed by what stands before it. -/
theorem framed_issue {op : TransportOp} {ops : List TransportOp} (hs : PendingFramed s) (hf : s.failed = false)
    (hp : s.pending = op :: ops ∨ framed false (op :: ops) = true) : framed (selectStands s) (op :: ops) = true := by
  obtain hp | hp := hp
  · rw [← hp]; exact hs hf
  · exact framed_of_false hp

/-- Every move of the trace leaves what is pending framed. -/
theorem pendingFramed_of_move (hstep : TraceInStep s) (hs : PendingFramed s) (h : TraceMove s t) : PendingFramed t := by
  intro hft
  cases h with
  | quiet hi ha hm ho hp =>
    obtain ⟨hp, hf⟩ | hp := hp
    · have hsel : selectStands t = selectStands s := by simp only [selectStands, hi, ha, ho]
      rw [hp, hsel]
      exact hs (hf ▸ hft)
    · exact framed_of_false hp
  | issue op ho hf hi ha hm ho' hp =>
    have hsel : selectStands t = isSelect op := by simp only [selectStands, ho']
    rw [hsel]
    exact framed_tail (framed_issue hs hf hp)
  | receive op tr ho hi ha hm ho' hp hf =>
    have htr : trFail tr = false := by
      by_contra htr
      rw [if_pos (by simpa using htr), hft] at hf
      cases hf
    rw [htr, if_neg (by decide), hft] at hf
    obtain ⟨-, hlast⟩ := hstep
    have hsel : selectStands t = selectStands s := by
      simp [selectStands, ho, ho', hi, ha, hlast op ho, htr, isSelectWord_word]
    rw [hp, hsel]
    exact hs hf.symm

/-- Every move of the trace keeps R109: a TRANSFER is issued only where a select stands. -/
theorem transfersFollowSelects_of_move (hstep : TraceInStep s) (hframed : PendingFramed s)
    (hs : TransfersFollowSelects s) (h : TraceMove s t) : TransfersFollowSelects t := by
  intro i w hw htransfer
  cases h with
  | quiet hi ha =>
    rw [hi] at hw ⊢
    rw [ha]
    exact hs i w hw htransfer
  | receive op tr ho hi ha =>
    rw [hi] at hw ⊢
    obtain ⟨hpos, hsel, tr', htr', hok⟩ := hs i w hw htransfer
    have hlt := (List.getElem?_eq_some_iff.mp htr').1
    exact ⟨hpos, hsel, tr', by rw [ha, List.getElem?_append_left hlt, htr'], hok⟩
  | issue op ho hf hi ha hm ho' hp =>
    have hlen := length_issued_of_none hstep ho
    rw [hi] at hw ⊢
    rw [ha]
    obtain hlt | hge := Nat.lt_or_ge i s.issued.length
    · rw [List.getElem?_append_left hlt] at hw
      obtain ⟨hpos, ⟨v, hv, hsel⟩, hok⟩ := hs i w hw htransfer
      have hv' := (List.getElem?_eq_some_iff.mp hv).1
      exact ⟨hpos, ⟨v, by rw [List.getElem?_append_left hv', hv], hsel⟩, hok⟩
    · obtain ⟨hi0, rfl⟩ : i - s.issued.length = 0 ∧ op.word = w := by
        rwa [List.getElem?_append_right hge, List.getElem?_singleton, Option.ite_none_right_eq_some,
          Option.some.injEq] at hw
      obtain ⟨b, rfl⟩ := eq_transfer_of_isTransferWord htransfer
      have hstands := afterSelect_of_framed_transfer (framed_issue hframed hf hp)
      obtain ⟨⟨v, hv, hsel⟩, tr, htr, hok⟩ := last_of_selectStands ho hstands
      rw [List.getLast?_eq_getElem?] at hv htr
      have hlt := (List.getElem?_eq_some_iff.mp hv).1
      have hi' : i = s.issued.length := by omega
      subst hi'
      exact ⟨by omega, ⟨v, by rw [List.getElem?_append_left hlt, hv], hsel⟩, tr, by rw [hlen, htr], hok⟩

end Sys2Proof.Machine

namespace Sys2Proof

open Machine

/-- Settles O39: by the move of the trace; the only move that issues is the issue of one operation. -/
theorem oneOperationAtATime : Obligations.OneOperationAtATime := by
  intro s t hidle hs h
  have hmove := traceMove_of_step hidle h
  refine ⟨traceInStep_of_move hs hmove, fun hne => ?_⟩
  cases hmove with
  | quiet hi | receive _ _ _ hi => exact absurd hi hne
  | issue op ho hf hi ha hm ho' => exact ⟨ho, hf, op, ho', hi⟩

/-- Settles O40: by the move of the trace; a receipt does to BUSMODE what its word and response do to the trace's mode. -/
theorem busModeMirrorsTrace : Obligations.BusModeMirrorsTrace := fun _ _ hidle hs hmode h =>
  busMode_of_move hs hmode (traceMove_of_step hidle h)

/-- Settles O41: by the move of the trace; what is pending is framed, so a TRANSFER is issued only after a select. -/
theorem transfersFollowSelectsKept : Obligations.TransfersFollowSelectsKept := by
  intro s t hidle hstep hframed hs h
  have hmove := traceMove_of_step hidle h
  exact ⟨pendingFramed_of_move hstep hframed hmove, transfersFollowSelects_of_move hstep hframed hs hmove⟩

end Sys2Proof

/-! PROOFS. The host request channel over a block step and over a run (R26, R40, R184, R260): requests are taken and answered
one at a time, OWNED falls with SHUTDOWN, and a terminal state is left by nothing. -/

namespace Sys2Proof.Machine

variable {s t : State}

/-! ## Requests and responses (R40) -/

/-- A request that begins a body sets BUSY and is not answered yet; SHUTDOWN is answered at once (R181, R194). -/
theorem beginRequest_answers (r : Request) (s : State) :
    ((beginRequest r s).busy = true ∧ (beginRequest r s).replies = s.replies) ∨
      ((beginRequest r s).busy = false ∧ (beginRequest r s).replies = s.replies ++ [rsWord .shutdown .ok]) := by
  cases r with
  | shutdown => exact .inr ⟨rfl, rfl⟩
  | reset | init | setWindowColor | setPixel => exact .inl ⟨rfl, rfl⟩

/-- What a block step does to the host request channel: it takes the request on offer and answers it, or begins its body; it
delivers the response of the body in progress; or it leaves the channel, and BUSY. -/
inductive ChannelMove (s t : State) : Prop
  | answered (rq : RQWord) (rs : RSWord) (hb : s.busy = false) (hq : s.requests = rq :: t.requests)
      (hb' : t.busy = false) (hr : t.replies = s.replies ++ [rs])
  | begun (rq : RQWord) (hb : s.busy = false) (hq : s.requests = rq :: t.requests) (hb' : t.busy = true)
      (hr : t.replies = s.replies)
  | delivered (rs : RSWord) (hb : s.busy = true) (hq : t.requests = s.requests) (hb' : t.busy = false)
      (hr : t.replies = s.replies ++ [rs])
  | quiet (hq : t.requests = s.requests) (hb : t.busy = s.busy) (hr : t.replies = s.replies)

/-- Every block step makes one of the moves of the host request channel. -/
theorem channelMove_of_step (h : step s = .next t) : ChannelMove s t := by
  cases blockStep_of_step h with
  | illegal rq rest hb hr | refused rq rest r e hb hr => exact .answered rq _ hb hr rfl rfl
  | accepted rq rest r hb hr =>
    obtain ⟨hq, -⟩ := beginRequest_channels r { s with requests := rest }
    have hq' : s.requests = rq :: (beginRequest r { s with requests := rest }).requests := by rw [hr, hq]
    obtain ⟨hb', hreplies⟩ | ⟨hb', hreplies⟩ := beginRequest_answers r { s with requests := rest }
    · exact .begun rq hb hq' hb' hreplies
    · exact .answered rq _ hb hq' hb' hreplies
  | failure hb | endMark w hb | finished hb => exact .delivered _ hb rfl rfl rfl
  | receive op tr rest => exact .quiet (by simp) (by simp) (by simp)
  | _ => exact .quiet rfl rfl rfl

/-! ## Ownership (R26) -/

/-- A block step leaves OWNED, or accepts SHUTDOWN in READY (R194). -/
theorem step_owned (h : step s = .next t) :
    t.owned = s.owned ∨ (t.owned = false ∧ s.busy = false ∧ s.lifecycle = .ready ∧ t.lifecycle = .shutdown ∧
      ∃ rest, s.requests = Request.word .shutdown :: rest) := by
  cases blockStep_of_step h with
  | accepted rq rest r hb hr hd hc =>
    cases r with
    | shutdown =>
      rw [decodeRQ_eq_some_iff_word.mp hd] at hr
      exact .inr ⟨rfl, hb, checkRequest_pass hc, rfl, rest, hr⟩
    | reset | init | setWindowColor | setPixel => exact .inl rfl
  | receive op tr rest => exact .inl (receiveResponse_owned ..)
  | _ => exact .inl rfl

/-- SHUTDOWN's checks pass in READY (R194). -/
theorem checkRequest_shutdown (h : s.lifecycle = .ready) : checkRequest .shutdown s = none := by
  rw [checkRequest, checkShutdown, h]; rfl

/-! ## Terminal states (R184) -/

/-- The idle block in the STATE, with the OWNED and the trace, of `s`. -/
def IdleAs (s t : State) : Prop :=
  t.lifecycle = s.lifecycle ∧ t.busy = false ∧ t.issued = s.issued ∧ t.owned = s.owned

/-- In a terminal state a block step waits, or answers a request with an error that leaves STATE. -/
theorem idleAs_of_step (hb : s.busy = false) (hl : isTerminal s.lifecycle = true) (h : step s = .next t) :
    IdleAs s t := by
  rcases hr : s.requests with _ | ⟨rq, rest⟩
  · rw [step_noRequest hb hr] at h
    cases h
    exact ⟨rfl, hb, rfl, rfl⟩
  · rcases hd : decodeRQ rq with _ | r
    · rw [step_illegal hb hr hd] at h
      cases h
      exact ⟨rfl, rfl, rfl, rfl⟩
    · rw [step_refused hb hr hd (checkRequest_of_terminal hl r)] at h
      cases h
      exact ⟨rfl, rfl, rfl, rfl⟩

/-- A property that every block step keeps holds after every run that begins with it. -/
theorem runFor_keeps {P : State → Prop} (hstep : ∀ s t, P s → step s = .next t → P t) {n : Nat} (hs : P s)
    (h : runFor n s = .next t) : P t := by
  induction n generalizing s with
  | zero => cases h; exact hs
  | succ n ih =>
    rw [runFor] at h
    split at h
    · next u hu => exact ih (hstep s u hs hu) h
    · cases h
    · cases h

end Sys2Proof.Machine

namespace Sys2Proof

open Machine

/-- Settles O21: a request while BUSY = 1 is not accepted, and the moves that take one need BUSY = 0. -/
theorem noRequestWhileBusy : Obligations.NoRequestWhileBusy := by
  intro s hb
  refine ⟨by rw [reqReady, hb]; rfl, exec_request_busy hb, fun t h => ?_⟩
  cases channelMove_of_step h with
  | answered rq rs hb' | begun rq hb' => rw [hb] at hb'; cases hb'
  | delivered rs hb' hq | quiet hq => exact hq

/-- Settles O45: by the move of the host request channel. -/
theorem oneResponsePerRequest : Obligations.OneResponsePerRequest := by
  intro s t h
  cases channelMove_of_step h with
  | answered rq rs hb hq hb' hr =>
    refine ⟨?_, by simp [hb], fun _ => ⟨hb, rq, hq⟩⟩
    simp [hb, hb', hr, congrArg List.length hq]
    omega
  | begun rq hb hq hb' hr =>
    refine ⟨?_, by simp [hb], fun _ => ⟨hb, rq, hq⟩⟩
    simp [hb, hb', hr, congrArg List.length hq]
    omega
  | delivered rs hb hq hb' hr =>
    refine ⟨?_, by simp [hb', hr], fun hne => absurd hq hne⟩
    simp [hb, hb', hr, hq]
    omega
  | quiet hq hb hr =>
    refine ⟨by rw [hq, hb, hr], fun hbusy => ?_, fun hne => absurd hq hne⟩
    simp [hb, hr, hbusy]

/-- Settles O46: OWNED is written by SHUTDOWN's acceptance alone. -/
theorem ownershipReleasedOnlyByShutdown : Obligations.OwnershipReleasedOnlyByShutdown := by
  refine ⟨fun _ => rfl, fun s t h => step_owned h, fun s t rest hb hl hr h => ?_⟩
  rw [step_accepted hb hr (decodeRQ_word .shutdown) (checkRequest_shutdown hl)] at h
  cases h
  rfl

/-- Settles O37: what a block step keeps of a terminal state, every run keeps. -/
theorem terminalStatesAreLeftByNothing : Obligations.TerminalStatesAreLeftByNothing := by
  intro n s t hb hl h
  have hterminal : isTerminal s.lifecycle = true := by
    obtain hl | hl := hl <;> rw [hl] <;> rfl
  refine runFor_keeps (P := IdleAs s) (fun u v hu hstep => ?_) ⟨rfl, hb, rfl, rfl⟩ h
  obtain ⟨hlu, hbu, hiu, hou⟩ := hu
  obtain ⟨hlv, hbv, hiv, hov⟩ := idleAs_of_step hbu (by rw [hlu]; exact hterminal) hstep
  exact ⟨hlv.trans hlu, hbv, hiv.trans hiu, hov.trans hou⟩

end Sys2Proof

/-! PROOFS. What each instruction does to every field (R53, R101 to R106, R130 to R134, R188 to R194): the requests at
acceptance, the script steps and the transport operations; and what a block step fetches (R58). -/

namespace Sys2Proof.Machine

variable {s : State}

/-! ## The requests at acceptance -/

/-- RESET, INITIALIZE and SHUTDOWN are refused with NOT_READY in a terminal state, and else with USAGE_VIOLATION outside
their source state (R184, D13). -/
theorem lifecycleCheck_eq (source l : Lifecycle) :
    lifecycleCheck source l =
      if l = .shutdown ∨ l = .faulted then some .notReady else if l = source then none else some .usageViolation := by
  cases l <;> rfl

/-- SET_WINDOW_COLOR's check, in numbers (R151). -/
theorem validWindow_iff (c : Config) (w : Window) :
    validWindow c w = true ↔ w.x0.toNat ≤ w.x1.toNat ∧ w.x1.toNat < c.panelW.toNat ∧ w.y0.toNat ≤ w.y1.toNat ∧
      w.y1.toNat < c.panelH.toNat := by
  simp only [validWindow, Bool.and_eq_true, decide_eq_true_eq, BitVec.le_def, BitVec.lt_def, and_assoc]

/-- SET_PIXEL's check, in numbers (R192). -/
theorem validPixel_iff (c : Config) (x y : Half) :
    validPixel c x y = true ↔ x.toNat < c.panelW.toNat ∧ y.toNat < c.panelH.toNat := by
  simp only [validPixel, Bool.and_eq_true, decide_eq_true_eq, BitVec.lt_def]

/-- A pixel request while BUSY = 0: begun in READY and in range, refused otherwise (R190, R191, R192). -/
theorem exec_pixelRequest {r : Request} {inRange : Bool} (hb : s.busy = false)
    (hc : checkRequest r s = pixelCheck inRange s.lifecycle) :
    exec r.instr s =
      .next (if s.lifecycle = .ready then
          if inRange = true then beginRequest r s else raiseError .usageViolation s
        else raiseError .notReady s) := by
  rw [exec_request hb, hc, pixelCheck]
  by_cases hl : s.lifecycle = .ready
  · cases inRange <;> simp [hl]
  · simp [hl]

/-! ## The transport operations -/

/-- A transport operation while none is outstanding (R42, R100). -/
theorem exec_issue (ho : s.outstanding = none) (op : TransportOp) :
    exec op.instr s = .next { s with outstanding := some op, issued := s.issued ++ [op.word] } :=
  (exec_transportOp op s).trans (emitOp_issue ho op)

/-- A script step that issues operations, while none is outstanding (R126). -/
theorem exec_step_issue {st : ScriptStep} {first : TransportOp} {others : List TransportOp}
    (h : stepOps st = first :: others) (ho : s.outstanding = none) :
    exec st.instr s =
      .next { s with
        outstanding := some first, pending := others, issued := s.issued ++ [first.word] } :=
  (exec_step_group h s).trans (emitGroup_issue ho first others)

/-- A transport operation once its response stands (R100). -/
theorem exec_receive {op : TransportOp} {tr : TRWord} {rest : List TRWord} (ho : s.outstanding = some op)
    (hr : s.responses = tr :: rest) : exec op.instr s = .next (receiveResponse op tr rest s) :=
  (exec_transportOp op s).trans (emitOp_receive ho hr)

/-- BUSMODE after a success (R100). -/
theorem busModeAfter_ok (op : TransportOp) (mode : BusMode) :
    busModeAfter op false mode = if op = .selectCmd then .command else if op = .selectData then .data else mode := by
  cases op <;> rfl

/-- BUSMODE after a failure (R100). -/
theorem busModeAfter_fail (op : TransportOp) (mode : BusMode) :
    busModeAfter op true mode = if op = .selectCmd ∨ op = .selectData then .none else mode := by
  cases op <;> rfl

/-- STATE after an error's entry action (R223 to R225). -/
theorem lifecycleAfterError_eq (e : ErrCode) (l : Lifecycle) :
    lifecycleAfterError e l = if e = .transportFailure ∨ e = .configurationError then .faulted else l := by
  cases e <;> rfl

/-! ## The fetch (R58) -/

/-- The first operation of the next pixel of a burst, and those after it, in numbers (R155). -/
theorem pixelGroup_eq (c : Config) (w : Window) (color : Half) (p : PixelCounters) :
    pixelGroup c w (constantSource color) p =
      .selectData :: ([.transfer (color.extractLsb' 8 8), .selectData, .transfer (color.extractLsb' 0 8)] ++
        (if p.x.toNat < w.x1.toNat ∨ p.y.toNat < w.y1.toNat then [] else [.selectCmd, .transfer c.opNop])) := by
  have hlast : nextPixel w p = none ↔ ¬(p.x.toNat < w.x1.toNat ∨ p.y.toNat < w.y1.toNat) := by
    simp only [nextPixel, BitVec.lt_def]
    split
    · simp_all
    · split <;> simp_all
  simp only [pixelGroup, hlast, ite_not]
  split <;> rfl

/-- The counters after a pixel, in numbers (R155). -/
theorem nextPixel_eq (w : Window) (p : PixelCounters) :
    nextPixel w p =
      if p.x.toNat < w.x1.toNat then some { x := p.x + 1, y := p.y, k := p.k + 1 }
      else if p.y.toNat < w.y1.toNat then some { x := w.x0, y := p.y + 1, k := p.k + 1 }
      else none := by
  simp only [nextPixel, BitVec.lt_def]

/-- The next operation of a body is issued by its own meaning. -/
theorem step_eq_exec_of_loaded {op : TransportOp} {ops : List TransportOp} (hb : s.busy = true)
    (ho : s.outstanding = none) (hf : s.failed = false) (hp : (loadPixel s).pending = op :: ops) :
    step s = exec op.instr { loadPixel s with pending := ops } := by
  rw [step_issue hb ho hf hp, exec_transportOp, emitOp_issue (by rw [← ho]; exact loadPixel_outstanding s)]

end Sys2Proof.Machine

namespace Sys2Proof

open Machine

/-- Settles O2: each is a field of the construction with R8's defaults. -/
theorem resetHoldsDefaultParameters : Obligations.ResetHoldsDefaultParameters :=
  ⟨rfl, rfl, rfl, rfl, rfl, rfl, rfl, rfl, rfl, rfl, rfl, rfl, rfl, rfl⟩

/-- Settles O4: DIAG is two halves, and no register stands at an index from 7 on. -/
theorem diagAndReservedIndices : Obligations.DiagAndReservedIndices := by
  intro s
  obtain ⟨hlow, hhigh⟩ := append_halves 0 s.spc
  refine ⟨hlow, hhigh, fun i hi => ?_⟩
  have hne (j : BitVec 4) (hj : j.toNat < 7) : i ≠ j := by rintro rfl; omega
  simp only [statusRead, hne 0x0 (by decide), hne 0x1 (by decide), hne 0x2 (by decide), hne 0x3 (by decide),
    hne 0x4 (by decide), hne 0x5 (by decide), hne 0x6 (by decide), if_false]

/-- Settles O5: by the block step of each fetch. -/
theorem stepRunsDecodedInstruction : Obligations.StepRunsDecodedInstruction := by
  refine ⟨?_, ?_, ?_, ?_, ?_⟩
  · intro s rq rest i hb hr hd
    obtain ⟨r, hdecode, rfl⟩ := Option.map_eq_some_iff.mp hd
    exact step_request hb hr hdecode
  · intro s op hb ho
    rw [step_outstanding hb ho, exec_transportOp]
  · intro s op ops hb ho hf hp
    have hl : loadPixel s = s := loadPixel_of_pending (by simp [hp])
    rw [step_eq_exec_of_loaded hb ho hf (by rw [hl]; exact hp), hl]
  · intro s w i hb ho hf hp hh hw hd
    obtain ⟨st, hdecode, rfl⟩ := Option.map_eq_some_iff.mp hd
    exact step_script hb ho hf (by rw [loadPixel_of_init hh]; exact hp) hh hw hdecode
  · intro s p w color hb ho hf hp hu hh
    have hl := loadPixel_pixel hp hu hh
    rw [step_eq_exec_of_loaded hb ho hf (by rw [hl]; exact pixelGroup_eq s.config w color p), hl, nextPixel_eq]
    rfl

/-- Settles O11: by the check of RESET, in each STATE. -/
theorem resetAcceptance : Obligations.ResetAcceptance := by
  intro s hb
  rw [show Instr.rqReset = Request.instr .reset from rfl, exec_request hb, checkRequest, checkReset, lifecycleCheck_eq]
  cases hl : s.lifecycle <;> rfl

/-- Settles O12: by the checks of INITIALIZE, in each STATE. -/
theorem initializeAcceptance : Obligations.InitializeAcceptance := by
  intro s hb
  rw [show Instr.rqInitialize = Request.instr .init from rfl, exec_request hb, checkRequest, checkInitialize,
    lifecycleCheck_eq]
  cases hl : s.lifecycle
  case resetting => cases hwf : wellFormedScript s.config.script <;> rfl
  all_goals rfl

/-- Settles O13: by the checks of SET_WINDOW_COLOR, the window's in numbers. -/
theorem setWindowColorAcceptance : Obligations.SetWindowColorAcceptance := by
  intro s x0 y0 x1 y1 color hb
  have h := exec_pixelRequest (r := .setWindowColor ⟨x0, y0, x1, y1⟩ color) hb rfl
  simp only [validWindow_iff] at h
  exact h

/-- Settles O14: by the checks of SET_PIXEL, the pixel's in numbers. -/
theorem setPixelAcceptance : Obligations.SetPixelAcceptance := by
  intro s x y color hb
  have h := exec_pixelRequest (r := .setPixel x y color) hb rfl
  simp only [validPixel_iff] at h
  exact h

/-- Settles O15: by the check of SHUTDOWN, in each STATE. -/
theorem shutdownAcceptance : Obligations.ShutdownAcceptance := by
  intro s hb
  rw [show Instr.rqShutdown = Request.instr .shutdown from rfl, exec_request hb, checkRequest, checkShutdown,
    lifecycleCheck_eq]
  cases hl : s.lifecycle <;> rfl

/-- Settles O16: the entry action writes STATE, and `finish` the rest. -/
theorem raiseErrorEntry : Obligations.RaiseErrorEntry := by
  intro e s
  rw [← lifecycleAfterError_eq]
  rfl

/-- Settles O22: INITIALIZE's checks pass, and the body it begins is handed to START at SPC 0. -/
theorem startOnlyAdvances : Obligations.StartOnlyAdvances := by
  refine ⟨fun s => rfl, fun s hb hl hwf => ?_⟩
  have hc : checkRequest .init s = none := by
    rw [checkRequest, checkInitialize, hl, if_pos hwf]
    rfl
  rw [show Instr.rqInitialize = Request.instr .init from rfl, exec_request hb, hc]
  rfl

/-- Settles O26: END is INITIALIZE's delivery, in READY. -/
theorem endCompletesInitialize : Obligations.EndCompletesInitialize := by
  intro s
  have hrs : rsWord .ready .ok = 0x00000300 := by decide
  rw [← hrs]
  rfl

/-- Settles O27: by the issue of each operation's own word. -/
theorem transportOperationsIssue : Obligations.TransportOperationsIssue := fun _ b ms ho =>
  ⟨exec_issue ho .assertReset, exec_issue ho .releaseReset, exec_issue ho .selectCmd, exec_issue ho .selectData,
    exec_issue ho (.transfer b), exec_issue ho (.sleep ms)⟩

/-- Settles O28: by the receipt of a success. -/
theorem transportOperationsSucceed : Obligations.TransportOperationsSucceed := by
  intro s op tr rest ho hr htr
  rw [exec_receive ho hr, receiveResponse_ok htr, busModeAfter_ok]

/-- Settles O29: by the receipt of a failure. -/
theorem transportOperationsFail : Obligations.TransportOperationsFail := by
  intro s op tr rest ho hr htr
  rw [exec_receive ho hr, receiveResponse_fail htr, busModeAfter_fail]

/-- Settles O30: the block step after a failure is its entry. -/
theorem transportFailureEntry : Obligations.TransportFailureEntry := by
  intro s hb ho hf
  have hrs : rsWord .faulted .transportFailure = 0x00000501 := by decide
  rw [step_failed hb ho hf, ← hrs]
  rfl

end Sys2Proof

/-! PROOFS. The operation sequences of whole requests and their costs (R195), and the pseudo-instructions (R96, R98). -/

namespace Sys2Proof.Machine

/-! ## The steps of the walk (R127) -/

/-- The body words stand between index 0 and the end index. -/
theorem bodyWords_eq_slice (m : Memory) : bodyWords m = (m.take (endIndex m)).drop 1 := by
  have hprefix : bodyWords m <+: m.tail := List.takeWhile_prefix _
  rw [List.drop_take, endIndex, Nat.add_sub_cancel_left, List.drop_one]
  exact List.prefix_iff_eq_take.mp hprefix

/-- Whether a step sends a byte: CMD and DATA (R131, R132). -/
def sendsByte : ScriptStep → Bool
  | .cmd _ => true
  | .data _ => true
  | .delay _ => false
  | .start => false
  | .endMark => false

/-- Whether a step is a DELAY (R133). -/
def isDelay : ScriptStep → Bool
  | .delay _ => true
  | .cmd _ => false
  | .data _ => false
  | .start => false
  | .endMark => false

/-- The byte a step sends. -/
def stepByte : ScriptStep → Option Byte
  | .cmd b => some b
  | .data b => some b
  | .delay _ => none
  | .start => none
  | .endMark => none

/-- A walk costs two operations for each step that sends a byte and one for each DELAY. -/
theorem length_flatMap_stepOps (steps : List ScriptStep) :
    (steps.flatMap stepOps).length = 2 * steps.countP sendsByte + steps.countP isDelay := by
  induction steps with
  | nil => rfl
  | cons st steps ih =>
    rw [List.flatMap_cons, List.length_append, ih, List.countP_cons, List.countP_cons]
    cases st <;> simp [stepOps, sendCommand, sendData, sendsByte, isDelay] <;> omega

/-- A walk transfers the bytes of its steps, in order. -/
theorem bytesOf_flatMap_stepOps (steps : List ScriptStep) :
    bytesOf (steps.flatMap stepOps) = steps.filterMap stepByte := by
  induction steps with
  | nil => rfl
  | cons st steps ih =>
    rw [List.flatMap_cons, bytesOf_append, ih]
    cases st <;> rfl

/-! ## SET_PIXEL (R192, R193) -/

/-- The Framer calls of SET_PIXEL. -/
def setPixelCalls (c : Config) (x y color : Half) : List (TransportOp × Byte) :=
  setWindowCalls c (pixelWindow x y) ++ [(.selectCmd, c.opRamwr)] ++ halfCalls color ++
    (if c.setPixelTrailingNop then [(.selectCmd, c.opNop)] else [])

theorem setPixelSequence_eq_callOps (c : Config) (x y color : Half) :
    setPixelSequence c x y color = callOps (setPixelCalls c x y color) := by
  cases h : c.setPixelTrailingNop <;> simp only [setPixelSequence, setPixelCalls, h] <;> rfl

theorem length_setPixelCalls (c : Config) (x y color : Half) :
    (setPixelCalls c x y color).length = if c.setPixelTrailingNop = true then 14 else 13 := by
  cases h : c.setPixelTrailingNop <;> simp only [setPixelCalls, h] <;> rfl

theorem setPixelCalls_all_select (c : Config) (x y color : Half) :
    (setPixelCalls c x y color).all (fun call => isSelect call.1) = true := by
  cases h : c.setPixelTrailingNop <;> simp only [setPixelCalls, h] <;> rfl

/-! ## CLEAR (R98) -/

/-- The last coordinate of a panel that is not empty is inside it (R9). -/
theorem toNat_sub_one_lt {v : Half} (h : v ≠ 0) : (v - 1).toNat < v.toNat := by
  have hv : v.toNat ≠ 0 := fun h0 => h (BitVec.eq_of_toNat_eq h0)
  have hlt := v.isLt
  rw [BitVec.toNat_sub]
  simp
  omega

end Sys2Proof.Machine

namespace Sys2Proof

open Machine

/-- Settles O55: SET_PIXEL's sequence is the operations of its Framer calls, and the walk's operations are those of the
steps between START and the end index. -/
theorem requestCosts : Obligations.RequestCosts := by
  refine ⟨fun c => ⟨rfl, rfl, rfl⟩, fun c w color => rfl, fun c x y color => ⟨rfl, ?_, ?_⟩, fun c => ?_⟩
  · rw [bodyOps, setPixelSequence_eq_callOps, length_callOps, length_setPixelCalls]
    split <;> rfl
  · rw [bodyOps, setPixelSequence_eq_callOps, bytesOf_callOps (setPixelCalls_all_select c x y color), List.length_map,
      length_setPixelCalls]
  · intro steps
    have hops : bodyOps c .init = steps.flatMap stepOps := by
      rw [bodyOps, walkOps, stepsOf, bodyWords_eq_slice]
    rw [hops]
    exact ⟨List.flatMap_congr fun st _ => by cases st <;> rfl, length_flatMap_stepOps steps,
      bytesOf_flatMap_stepOps steps⟩

/-- Settles O60: the word of CLEAR's window by its number, the window by the panel, which is not empty (R9). -/
theorem pseudoInstructionsExpand : Obligations.PseudoInstructionsExpand := by
  refine ⟨fun c color hc => ⟨?_, ?_⟩, fun op bytes => ?_⟩
  · refine BitVec.eq_of_toNat_eq ?_
    rw [expandClear, toNat_word_setWindowColor]
    repeat rw [toNat_append_add]
    simp
    omega
  · simp only [Config.wellFormed, Bool.and_eq_true, bne_iff_ne] at hc
    obtain ⟨⟨hw, hh⟩, -⟩ := hc
    exact (validWindow_iff c _).mpr ⟨Nat.zero_le _, toNat_sub_one_lt hw, Nat.zero_le _, toNat_sub_one_lt hh⟩
  · rw [expandReg, List.flatMap_cons, List.flatMap_map]
    rfl

end Sys2Proof

/-! PROOFS. What a body still has to issue (R127, R155): the operations that remain, each with the SPC it is issued at, and
that they are issued one by one, each when the one before it has succeeded. -/

namespace Sys2Proof.Machine

variable {s : State} {m : Memory}

/-! ## The walk from an index on (R127, R129) -/

/-- The operations of the walk from the index `i` on, each with its step's index. -/
def walkFrom (m : Memory) (i : Nat) : List (TransportOp × Nat) :=
  (((stepsOf (bodyWords m)).zipIdx 1).drop (i - 1)).flatMap (fun e => (stepOps e.1).map (fun op => (op, e.2)))

theorem walkFrom_one_ops (m : Memory) : (walkFrom m 1).map Prod.fst = walkOps m := by
  have hsteps : walkOps m = (((stepsOf (bodyWords m)).zipIdx 1).map Prod.fst).flatMap stepOps := by
    rw [List.zipIdx_map_fst, walkOps]
  rw [hsteps, List.flatMap_map, walkFrom, List.map_flatMap]
  exact List.flatMap_congr fun e _ => by simp [Function.comp_def]

theorem walkFrom_one_indices (m : Memory) : (walkFrom m 1).map Prod.snd = walkIndices m := by
  rw [walkFrom, List.map_flatMap, walkIndices]
  exact List.flatMap_congr fun e _ => by simp [Function.comp_def]

/-- Words that are all body steps are the words of the steps they spell. -/
theorem eq_map_word_of_isBodyStep {ws : List SWWord} (h : ∀ w ∈ ws, isBodyStep w = true) :
    ws = (stepsOf ws).map ScriptStep.word := by
  induction ws with
  | nil => rfl
  | cons w ws ih =>
    obtain ⟨hw, hws⟩ := List.forall_mem_cons.mp h
    obtain ⟨st, _, _, hd, -⟩ := stepOps_of_isBodyStep hw
    rw [stepsOf, List.filterMap_cons_some hd, List.map_cons, ← stepsOf, ← ih hws, ← decodeSW_eq_some_iff.mp hd]

theorem length_stepsOf (h : wellFormedScript m = true) : (stepsOf (bodyWords m)).length = (bodyWords m).length := by
  conv_rhs => rw [eq_map_word_of_isBodyStep (fun _ => isBodyStep_of_mem h), List.length_map]

/-- The walk's step at an index between START and END. -/
theorem walk_step_at (h : wellFormedScript m = true) {i : Nat} (h1 : 1 ≤ i) (h2 : i < endIndex m) :
    ∃ st, m[i]? = some st.word ∧ (stepsOf (bodyWords m))[i - 1]? = some st := by
  obtain ⟨w, hw, hbody⟩ := getElem_body_of_wellFormed h h1 h2
  rw [eq_map_word_of_isBodyStep (fun _ => isBodyStep_of_mem h), List.getElem?_map, Option.map_eq_some_iff] at hbody
  obtain ⟨st, hst, rfl⟩ := hbody
  exact ⟨st, hw, hst⟩

/-- The walk from a step on: the step's operations, then the walk from the next index on. -/
theorem walkFrom_step {i : Nat} {st : ScriptStep} (h1 : 1 ≤ i) (hst : (stepsOf (bodyWords m))[i - 1]? = some st) :
    walkFrom m i = (stepOps st).map (fun op => (op, i)) ++ walkFrom m (i + 1) := by
  have hidx : ((stepsOf (bodyWords m)).zipIdx 1)[i - 1]? = some (st, i) := by
    rw [List.getElem?_zipIdx, hst, Option.map_some, Nat.add_sub_cancel' h1]
  obtain ⟨hlt, hget⟩ := List.getElem?_eq_some_iff.mp hidx
  rw [walkFrom, List.drop_eq_getElem_cons hlt, hget, List.flatMap_cons, walkFrom, Nat.add_sub_cancel,
    Nat.sub_add_cancel h1]

/-- At END nothing remains of the walk. -/
theorem walkFrom_endIndex (h : wellFormedScript m = true) : walkFrom m (endIndex m) = [] := by
  rw [walkFrom, List.drop_eq_nil_of_le, List.flatMap_nil]
  rw [List.length_zipIdx, length_stepsOf h, endIndex, Nat.add_sub_cancel_left]

/-- Before END something remains of the walk. -/
theorem walkFrom_ne_nil (h : wellFormedScript m = true) {i : Nat} (h1 : 1 ≤ i) (h2 : i < endIndex m) :
    ∃ st first others, m[i]? = some st.word ∧ stepOps st = first :: others ∧
      walkFrom m i = (first :: others).map (fun op => (op, i)) ++ walkFrom m (i + 1) := by
  obtain ⟨st, hw, hst⟩ := walk_step_at h h1 h2
  obtain ⟨w, hw', -, hbody⟩ := bodyStep_at h h1 h2
  cases hw.symm.trans hw'
  obtain ⟨st', first, others, hd, hops⟩ := stepOps_of_isBodyStep hbody
  cases hd.symm.trans (decodeSW_eq_some_iff.mpr rfl)
  exact ⟨st, first, others, hw, hops, by rw [walkFrom_step h1 hst, hops]⟩

/-! ## The burst from a pixel on (R155) -/

/-- The operations of a burst from its next pixel on, the trailing no-op with them; none where no pixel remains. -/
def burstOps (c : Config) (w : Window) (color : Half) : Option PixelCounters → List TransportOp
  | none => []
  | some p => ((pixelsOf w).drop p.k).flatMap (fun _ => sendHalf color) ++ sendCommand c.opNop

/-- The burst from a pixel on: the pixel's operations, then the burst from the next pixel on. -/
theorem burstOps_some {c : Config} {w : Window} {color : Half} {p : PixelCounters} (hv : validWindow c w = true)
    (hk : p.k < windowWidth w * windowHeight w) (hp : p = pixelAt w p.k) :
    burstOps c w color (some p) =
      pixelGroup c w (constantSource color) p ++ burstOps c w color (nextPixel w p) := by
  obtain ⟨hx, hy⟩ := validWindow_le hv
  have hlen : (pixelsOf w).length = windowWidth w * windowHeight w := by simp [pixelsOf]
  have hnext := nextPixel_pixelAt hx hy hk
  rw [← hp] at hnext
  rw [burstOps, List.drop_eq_getElem_cons (by rw [hlen]; exact hk), List.flatMap_cons, pixelGroup, hnext,
    List.append_assoc, List.append_assoc]
  split
  · rfl
  · rw [List.drop_eq_nil_of_le (by omega)]
    rfl

/-- A whole burst is the pixels of writePixels and the trailing no-op. -/
theorem writePixels_eq_burst (c : Config) (w : Window) (color : Half) :
    writePixels c w (constantSource color) =
      burstOpening c w ++ burstOps c w color (some { x := w.x0, y := w.y0, k := 0 }) :=
  List.append_assoc ..

/-! ## What remains of a body -/

/-- The operations a body between two of them has still to issue, each with the SPC it is issued at. -/
def remaining (s : State) : List (TransportOp × Nat) :=
  match s.held with
  | some .init =>
    s.pending.map (fun op => (op, s.spc.toNat)) ++
      walkFrom s.config.script (if s.pending = [] then s.spc.toNat else s.spc.toNat + 1)
  | some (.setWindowColor w color) =>
    (s.pending ++ burstOps s.config w color s.burst).map (fun op => (op, s.spc.toNat))
  | _ => s.pending.map (fun op => (op, s.spc.toNat))

/-- At its beginning the whole sequence of a body remains (R188, R127, R155, R192). -/
theorem remaining_beginRequest {r : Request} (hr : r ≠ .shutdown) (s : State) :
    (remaining (beginRequest r s)).map Prod.fst = bodyOps s.config r := by
  cases r with
  | reset => rfl
  | init => exact walkFrom_one_ops s.config.script
  | setWindowColor w color =>
    rw [bodyOps, writePixels_eq_burst]
    simp [remaining, beginRequest, Function.comp_def]
  | setPixel x y color => simp [remaining, beginRequest, bodyOps, Function.comp_def]
  | shutdown => exact absurd rfl hr

/-- A body in progress, between two operations, with no failure. -/
def BetweenOps (s : State) : Prop :=
  s.config.wellFormed = true ∧ s.busy = true ∧ s.outstanding = none ∧ s.failed = false ∧ BodyPosition s

/-- A request whose checks pass begins a body between two operations. -/
theorem betweenOps_beginRequest {r : Request} (hc : s.config.wellFormed = true) (hr : r ≠ .shutdown)
    (h : checkRequest r s = none) : BetweenOps (beginRequest r s) := by
  have hpos := bodyPosition_beginRequest hr h
  cases r with
  | reset | init | setWindowColor | setPixel => exact ⟨hc, rfl, rfl, rfl, hpos⟩
  | shutdown => exact absurd rfl hr

/-! ## The issue of what remains -/

/-- The next block step from `s` issues `op`, with `ops` pending and the burst at `b` after it, and these were what remained
of the body. -/
def IssuesNext (s : State) (op : TransportOp) (ops : List TransportOp) (b : Option PixelCounters) : Prop :=
  step s = .next (issueOp op { s with pending := ops, burst := b }) ∧
    BodyPosition (issueOp op { s with pending := ops, burst := b }) ∧
    remaining { s with pending := op :: ops, burst := b } = remaining s

/-- The next pending operation of a body is issued. -/
theorem step_pending {op : TransportOp} {ops : List TransportOp} (hb : s.busy = true) (ho : s.outstanding = none)
    (hf : s.failed = false) (hp : s.pending = op :: ops) :
    step s = .next (issueOp op { s with pending := ops, burst := s.burst }) := by
  have hl : loadPixel s = s := loadPixel_of_pending (by simp [hp])
  rw [step_issue hb ho hf (by rw [hl]; exact hp), hl]

theorem issuesNext_pending {op : TransportOp} {ops : List TransportOp} (hs : BetweenOps s) (hp : s.pending = op :: ops) :
    IssuesNext s op ops s.burst := by
  obtain ⟨-, hb, ho, hf, hpos⟩ := hs
  refine ⟨step_pending hb ho hf hp, bodyPosition_issueOp hpos op ops fun hh => ?_, by rw [← hp]⟩
  obtain ⟨-, -, -, hbefore⟩ := walkPosition_of_bodyPosition hpos hh
  exact hbefore (.inl (by simp [hp]))

theorem issuesNext_pixel {p : PixelCounters} {w : Window} {color : Half} (hs : BetweenOps s) (hp : s.pending = [])
    (hu : s.burst = some p) (hh : s.held = some (.setWindowColor w color)) :
    ∃ op ops, IssuesNext s op ops (nextPixel w p) := by
  obtain ⟨-, hb, ho, hf, hpos⟩ := hs
  have hl := loadPixel_pixel hp hu hh
  obtain ⟨op, ops, hg⟩ : ∃ op ops, pixelGroup s.config w (constantSource color) p = op :: ops :=
    ⟨_, _, pixelGroup_eq s.config w color p⟩
  refine ⟨op, ops, ?_, bodyPosition_pixel hpos hu hh op ops, ?_⟩
  · rw [step_issue hb ho hf (by rw [hl]; exact hg), hl]
  · simp only [BodyPosition, hh] at hpos
    obtain ⟨-, hv, hburst⟩ := hpos
    obtain ⟨hk, hpix⟩ := hburst p hu
    simp only [remaining, hh, hp, hu, List.nil_append]
    rw [burstOps_some hv hk hpix, hg]

theorem issuesNext_script (hs : BetweenOps s) (hp : s.pending = []) (hh : s.held = some .init)
    (hlt : s.spc.toNat < endIndex s.config.script) : ∃ op ops, IssuesNext s op ops s.burst := by
  obtain ⟨-, hb, ho, hf, hpos⟩ := hs
  obtain ⟨hwf, h1, -⟩ := walkPosition_of_bodyPosition hpos hh
  obtain ⟨st, op, ops, hw, hops, hwalk⟩ := walkFrom_ne_nil hwf h1 hlt
  refine ⟨op, ops, ?_, bodyPosition_issueOp hpos op ops fun _ => hlt, ?_⟩
  · rw [step_script hb ho hf (by rw [loadPixel_of_init hh]; exact hp) hh hw (decodeSW_eq_some_iff.mpr rfl),
      exec_step_group hops, emitGroup_issue ho]
  · simp only [remaining, hh, hp, reduceCtorEq, if_true, if_false, List.map_nil, List.nil_append, hwalk]

/-- While operations remain of a body, the next block step issues the first of them. -/
theorem exists_issuesNext (hs : BetweenOps s) (hne : remaining s ≠ []) : ∃ op ops b, IssuesNext s op ops b := by
  rcases hp : s.pending with _ | ⟨op, ops⟩
  · obtain ⟨-, -, -, -, hpos⟩ := id hs
    rcases hh : s.held with _ | r
    · simp [BodyPosition, hh] at hpos
    cases r with
    | init =>
      obtain ⟨hwf, h1, h2, -⟩ := walkPosition_of_bodyPosition hpos hh
      have hlt : s.spc.toNat < endIndex s.config.script := by
        refine Nat.lt_of_le_of_ne h2 fun he => hne ?_
        simp [remaining, hh, hp, he, walkFrom_endIndex hwf]
      obtain ⟨op, ops, h⟩ := issuesNext_script hs hp hh hlt
      exact ⟨op, ops, _, h⟩
    | setWindowColor w color =>
      rcases hu : s.burst with _ | p
      · simp [remaining, hh, hp, hu, burstOps] at hne
      · obtain ⟨op, ops, h⟩ := issuesNext_pixel hs hp hu hh
        exact ⟨op, ops, _, h⟩
    | reset | setPixel | shutdown => simp [remaining, hh, hp] at hne
  · exact ⟨op, ops, s.burst, issuesNext_pending hs hp⟩

/-! ## The receipt of a success -/

/-- The state after the operations `ops` of a body have succeeded with the responses `trs`, with `rest` to come and the body
at its next position. -/
def State.afterOps (s : State) (ops : List TransportOp) (trs rest : List TRWord) (pending : List TransportOp)
    (burst : Option PixelCounters) (spc : Half) : State :=
  { s with
    pending := pending, burst := burst, spc := spc, busMode := modeAfterOps ops s.busMode, responses := rest
    issued := s.issued ++ ops.map TransportOp.word, answered := s.answered ++ trs }

/-- A first operation and those after it. -/
theorem afterOps_afterOps (s : State) (op : TransportOp) (ops : List TransportOp) (tr : TRWord)
    (trs rest rest' : List TRWord) (p p' : List TransportOp) (b b' : Option PixelCounters) (i i' : Half) :
    (s.afterOps [op] [tr] rest p b i).afterOps ops trs rest' p' b' i' =
      s.afterOps (op :: ops) (tr :: trs) rest' p' b' i' := by
  simp [State.afterOps, modeAfterOps]

/-- SPC after the last operation issued with `ops` pending has succeeded (R126). -/
def spcAfter (s : State) (ops : List TransportOp) : Half :=
  if ops = [] ∧ s.held = some .init then s.spc + 1 else s.spc

/-- The block step after an issue, where a response stands, is its receipt (R100). -/
theorem step_issueOp {op : TransportOp} {tr : TRWord} {rest : List TRWord} (hb : s.busy = true)
    (hr : s.responses = tr :: rest) : step (issueOp op s) = .next (receiveResponse op tr rest (issueOp op s)) := by
  rw [step_outstanding (by exact hb) (issueOp_outstanding ..), emitOp_receive (issueOp_outstanding ..) (by exact hr)]

/-- The block step that issues an operation and the one that receives its success. -/
theorem run_issue_receive {op : TransportOp} {ops : List TransportOp} {b : Option PixelCounters} {tr : TRWord}
    {rest : List TRWord} (hb : s.busy = true) (ho : s.outstanding = none)
    (hstep : step s = .next (issueOp op { s with pending := ops, burst := b })) (hr : s.responses = tr :: rest)
    (htr : trFail tr = false) :
    runFor 2 s = .next (s.afterOps [op] [tr] rest ops b (spcAfter s ops)) := by
  rw [runFor_succ_of_step hstep, runFor_succ_of_step (step_issueOp (by exact hb) (by exact hr)), receiveResponse_ok htr]
  simp only [runFor, State.afterOps, issueOp, ho]
  rfl

/-- After a success the body is between two operations again. -/
theorem betweenOps_after {op : TransportOp} {ops : List TransportOp} {b : Option PixelCounters} {tr : TRWord}
    (hs : BetweenOps s) (h : IssuesNext s op ops b) (htr : trFail tr = false) (rest : List TRWord) :
    BetweenOps (s.afterOps [op] [tr] rest ops b (spcAfter s ops)) := by
  obtain ⟨hc, hb, ho, hf, -⟩ := hs
  obtain ⟨-, hpos, -⟩ := h
  have hafter := bodyPosition_receive (by exact hc) hpos (issueOp_outstanding ..) tr rest
  rw [receiveResponse_ok htr] at hafter
  exact ⟨hc, hb, ho, hf, bodyPosition_of_eq hafter rfl rfl rfl rfl fun _ hwalk => by
    obtain ⟨hwf, h1, h2, h3⟩ := hwalk
    exact ⟨hwf, h1, h2, fun hne => h3 (hne.imp_right fun hne => absurd ho hne)⟩⟩

/-- What remains: the operation issued, at SPC, and after its success the others. -/
theorem remaining_eq_cons {op : TransportOp} {ops : List TransportOp} {b : Option PixelCounters} (hs : BetweenOps s)
    (h : IssuesNext s op ops b) (tr : TRWord) (rest : List TRWord) :
    remaining s = (op, s.spc.toNat) :: remaining (s.afterOps [op] [tr] rest ops b (spcAfter s ops)) := by
  obtain ⟨hc, -⟩ := hs
  obtain ⟨-, hpos, hrem⟩ := h
  rw [← hrem]
  rcases hh : s.held with _ | r
  · simp [remaining, State.afterOps, spcAfter, hh]
  cases r with
  | init =>
    obtain ⟨hwf, -, -, hbefore⟩ := walkPosition_of_bodyPosition hpos hh
    have hsucc : (s.spc + 1#16).toNat = s.spc.toNat + 1 := toNat_spc_succ hc hwf (hbefore (.inr (by simp)))
    cases ops with
    | nil => simp [remaining, State.afterOps, spcAfter, hh, hsucc, -BitVec.toNat_add]
    | cons => simp [remaining, State.afterOps, spcAfter, hh]
  | reset | setWindowColor | setPixel | shutdown => simp [remaining, State.afterOps, spcAfter, hh]

/-! ## A run of successes -/

/-- A body before a transport that answers the next of its operations with FAIL = 0: two block steps for each, and the body
goes on from there. -/
theorem run_successes {oks rest : List TRWord} {done more : List (TransportOp × Nat)} (hs : BetweenOps s)
    (hr : s.responses = oks ++ rest) (hok : allOk oks = true) (hrem : remaining s = done ++ more)
    (hlen : done.length = oks.length) :
    ∃ p b i, runFor (2 * oks.length) s = .next (s.afterOps (done.map Prod.fst) oks rest p b i) ∧
      BetweenOps (s.afterOps (done.map Prod.fst) oks rest p b i) ∧
      remaining (s.afterOps (done.map Prod.fst) oks rest p b i) = more ∧ (s.held ≠ some .init → i = s.spc) := by
  induction oks generalizing s done with
  | nil =>
    obtain rfl := List.length_eq_zero_iff.mp hlen
    have hself : s.afterOps [] [] rest s.pending s.burst s.spc = s := by
      simp only [State.afterOps, modeAfterOps, List.foldl_nil, List.map_nil, List.append_nil]
      rw [List.nil_append] at hr
      rw [← hr]
    refine ⟨s.pending, s.burst, s.spc, ?_⟩
    rw [List.map_nil, hself]
    exact ⟨rfl, hs, hrem, fun _ => rfl⟩
  | cons tr oks ih =>
    obtain ⟨e, done, rfl⟩ := List.exists_cons_of_length_eq_add_one hlen
    simp only [allOk, List.all_cons, Bool.and_eq_true, Bool.not_eq_true'] at hok
    obtain ⟨htr, hok⟩ := hok
    obtain ⟨op, ops, b, hissue⟩ := exists_issuesNext hs (by rw [hrem]; exact List.cons_ne_nil _ _)
    have hcons := (remaining_eq_cons hs hissue tr (oks ++ rest)).symm.trans hrem
    obtain ⟨rfl, hrem'⟩ := List.cons.inj hcons
    obtain ⟨p', b', i', hrun, hbetween, hmore, hspc⟩ :=
      ih (betweenOps_after hs hissue htr (oks ++ rest)) rfl hok hrem' (Nat.succ.inj hlen)
    rw [afterOps_afterOps] at hrun hbetween hmore
    refine ⟨p', b', i', ?_, hbetween, hmore, fun hh => (hspc hh).trans (by simp [State.afterOps, spcAfter, hh])⟩
    obtain ⟨-, hb, ho, -, -⟩ := hs
    obtain ⟨hstep, -, -⟩ := hissue
    rw [List.length_cons, Nat.mul_succ, Nat.add_comm, runFor_add_of_next (run_issue_receive hb ho hstep hr htr)]
    exact hrun

/-! ## The end of a body -/

/-- INITIALIZE's body with nothing left to issue stands at END. -/
theorem spc_of_remaining_nil (hs : BetweenOps s) (hnil : remaining s = []) (hh : s.held = some .init) :
    s.pending = [] ∧ s.spc.toNat = endIndex s.config.script := by
  obtain ⟨-, -, -, -, hpos⟩ := hs
  obtain ⟨hwf, h1, h2, -⟩ := walkPosition_of_bodyPosition hpos hh
  simp only [remaining, hh, List.append_eq_nil_iff, List.map_eq_nil_iff] at hnil
  obtain ⟨hp, hwalk⟩ := hnil
  rw [if_pos hp] at hwalk
  refine ⟨hp, ?_⟩
  by_contra hne
  obtain ⟨st, first, others, -, -, hcons⟩ := walkFrom_ne_nil hwf h1 (Nat.lt_of_le_of_ne h2 hne)
  rw [hwalk] at hcons
  cases hcons

/-- A body with nothing left to issue is answered OK (R182, R189). -/
theorem step_of_remaining_nil {r : Request} (hs : BetweenOps s) (hnil : remaining s = []) (hh : s.held = some r) :
    step s = .next (finish .ok { s with lifecycle := successLifecycle r s.lifecycle }) := by
  obtain ⟨-, hb, ho, hf, hpos⟩ := id hs
  cases r with
  | init =>
    obtain ⟨hp, hspc⟩ := spc_of_remaining_nil hs hnil hh
    obtain ⟨hwf, -⟩ := walkPosition_of_bodyPosition hpos hh
    have hw : scriptRead s.config.script s.spc = some (ScriptStep.word .endMark) := by
      rw [scriptRead, hspc, getElem_endIndex_of_wellFormed hwf]
    rw [step_script hb ho hf (by rw [loadPixel_of_init hh]; exact hp) hh hw (decodeSW_eq_some_iff.mpr rfl)]
    rfl
  | reset =>
    have hp : s.pending = [] := by simpa [remaining, hh] using hnil
    simp only [BodyPosition, hh] at hpos
    obtain ⟨hl, hu⟩ := hpos
    rw [step_finish hb ho hf (by rw [loadPixel_of_burst_none hu]; exact hp) (by simp [hh]), successLifecycle, ← hl]
  | setPixel x y color =>
    have hp : s.pending = [] := by simpa [remaining, hh] using hnil
    simp only [BodyPosition, hh] at hpos
    obtain ⟨-, hu, -⟩ := hpos
    exact step_finish hb ho hf (by rw [loadPixel_of_burst_none hu]; exact hp) (by simp [hh])
  | setWindowColor w color =>
    simp only [remaining, hh, List.map_eq_nil_iff, List.append_eq_nil_iff] at hnil
    obtain ⟨hp, hburst⟩ := hnil
    have hu : s.burst = none := by
      rcases hu : s.burst with _ | p
      · rfl
      · simp [hu, burstOps, sendCommand] at hburst
    exact step_finish hb ho hf (by rw [loadPixel_of_burst_none hu]; exact hp) (by simp [hh])
  | shutdown => simp [BodyPosition, hh] at hpos

end Sys2Proof.Machine

/-! PROOFS. Runs of whole script steps and whole requests (R131 to R133, R187, R195, R253, R262): a request's acceptance, its
operations one by one, and its delivery; the failure of one of them; and a transport that stops answering. -/

namespace Sys2Proof.Machine

variable {s t u : State}

/-! ## Script steps (R131 to R133) -/

/-- The first block step of a script step that issues operations. -/
theorem step_scriptOps {w : SWWord} {st : ScriptStep} {first : TransportOp} {others : List TransportOp}
    (hb : s.busy = true) (ho : s.outstanding = none) (hf : s.failed = false) (hp : s.pending = [])
    (hh : s.held = some .init) (hw : scriptRead s.config.script s.spc = some w)
    (hd : decode (.sw w) = some st.instr) (hops : stepOps st = first :: others) :
    step s = .next (issueOp first { s with pending := others, burst := s.burst }) := by
  rw [show w = st.word by simpa using (encodeOfDecode _ _ hd).symm] at hw
  rw [step_script hb ho hf (by rw [loadPixel_of_init hh]; exact hp) hh hw (decodeSW_eq_some_iff.mpr rfl),
    exec_step_group hops, emitGroup_issue ho]

/-- The four block steps of a script step that sends a byte, before two responses with FAIL = 0. -/
theorem run_byteStep {w : SWWord} {st : ScriptStep} {select : TransportOp} {b : Byte} {tr1 tr2 : TRWord}
    {rest : List TRWord} (hb : s.busy = true) (ho : s.outstanding = none) (hf : s.failed = false) (hp : s.pending = [])
    (hh : s.held = some .init) (hw : scriptRead s.config.script s.spc = some w)
    (hd : decode (.sw w) = some st.instr) (hops : stepOps st = [select, .transfer b])
    (hr : s.responses = tr1 :: tr2 :: rest) (h1 : trFail tr1 = false) (h2 : trFail tr2 = false) :
    runFor 4 s = .next (s.afterOps [select, .transfer b] [tr1, tr2] rest s.pending s.burst (s.spc + 1)) := by
  have hselect := run_issue_receive hb ho (step_scriptOps hb ho hf hp hh hw hd hops) hr h1
  rw [show spcAfter s [.transfer b] = s.spc by simp [spcAfter]] at hselect
  have hissue := step_pending (s := s.afterOps [select] [tr1] (tr2 :: rest) [.transfer b] s.burst s.spc) hb ho hf rfl
  have htransfer := run_issue_receive (by exact hb) (by exact ho) hissue rfl h2
  rw [afterOps_afterOps] at htransfer
  rw [runFor_add_of_next (n := 2) hselect, htransfer]
  simp [spcAfter, State.afterOps, hh, hp]

/-! ## Whole requests (R195) -/

/-- The state in which the request `r`, on offer before `others`, begins its body. -/
def begun (s : State) (r : Request) (others : List RQWord) : State := beginRequest r { s with requests := others }

/-- The beginning of a body leaves OWNED, the configuration, the trace, the responses, and SPC, which INITIALIZE alone sets
(R181). -/
theorem begun_frame {r : Request} (hr : r ≠ .shutdown) (s : State) (others : List RQWord) :
    (begun s r others).held = some r ∧ (begun s r others).owned = s.owned ∧ (begun s r others).config = s.config ∧
      (begun s r others).issued = s.issued ∧ (begun s r others).answered = s.answered ∧
      (begun s r others).replies = s.replies ∧ (begun s r others).requests = others ∧
      (begun s r others).responses = s.responses ∧ (r ≠ .init → (begun s r others).spc = s.spc) := by
  cases r with
  | reset | setWindowColor | setPixel => exact ⟨rfl, rfl, rfl, rfl, rfl, rfl, rfl, rfl, fun _ => rfl⟩
  | init => exact ⟨rfl, rfl, rfl, rfl, rfl, rfl, rfl, rfl, fun h => absurd rfl h⟩
  | shutdown => exact absurd rfl hr

/-- The idle block of a legal configuration with the request `r` on offer before `others`, where `r` has a body and its
checks pass. -/
def Offers (s : State) (r : Request) (others : List RQWord) : Prop :=
  s.busy = false ∧ s.config.wellFormed = true ∧ r ≠ .shutdown ∧ s.requests = r.word :: others ∧ checkRequest r s = none

/-- The request on offer begins its body in one block step, between two operations, with its whole sequence remaining. -/
theorem step_begun {r : Request} {others : List RQWord} (h : Offers s r others) :
    step s = .next (begun s r others) ∧ BetweenOps (begun s r others) ∧
      (remaining (begun s r others)).map Prod.fst = bodyOps s.config r := by
  obtain ⟨hb, hc, hr, hq, hk⟩ := h
  exact ⟨step_accepted hb hq (decodeRQ_word r) hk,
    betweenOps_beginRequest (by exact hc) hr (by rw [checkRequest_requests]; exact hk), remaining_beginRequest hr _⟩

/-- The request on offer, before a transport that answers its first operations with FAIL = 0: one block step begins its body,
two more for each answer issue the operation and receive the success, and the body goes on from there. -/
theorem run_request {r : Request} {others : List RQWord} {oks rest : List TRWord} (h : Offers s r others)
    (hresp : s.responses = oks ++ rest) (hok : allOk oks = true) (hlen : oks.length ≤ (bodyOps s.config r).length) :
    ∃ done p b i, done.length = oks.length ∧
      remaining (begun s r others) =
        done ++ remaining ((begun s r others).afterOps (done.map Prod.fst) oks rest p b i) ∧
      runFor (2 * oks.length + 1) s = .next ((begun s r others).afterOps (done.map Prod.fst) oks rest p b i) ∧
      BetweenOps ((begun s r others).afterOps (done.map Prod.fst) oks rest p b i) ∧ (r ≠ .init → i = s.spc) := by
  obtain ⟨hstep, hbetween, hops⟩ := step_begun h
  obtain ⟨-, -, hr, -⟩ := h
  obtain ⟨hheld, -, -, -, -, -, -, hresponses, hspc⟩ := begun_frame hr s others
  have hsplit := (List.take_append_drop oks.length (remaining (begun s r others))).symm
  have hdone : ((remaining (begun s r others)).take oks.length).length = oks.length := by
    rw [List.length_take, ← List.length_map (f := Prod.fst), hops, Nat.min_eq_left hlen]
  obtain ⟨p, b, i, hrun, hafter, hmore, hi⟩ :=
    run_successes hbetween (hresponses.trans hresp) hok hsplit hdone
  refine ⟨_, p, b, i, hdone, by rw [hmore]; exact hsplit, (runFor_succ_of_step hstep _).trans hrun, hafter,
    fun hinit => ?_⟩
  exact (hi (by rw [hheld]; simpa using hinit)).trans (hspc hinit)

/-- Where fewer operations have succeeded than the sequence has, some remain. -/
theorem more_ne_nil {done more : List (TransportOp × Nat)} {ops : List TransportOp}
    (hops : (done ++ more).map Prod.fst = ops) (hlt : done.length < ops.length) : more ≠ [] := by
  rintro rfl
  simp [← hops] at hlt

/-! ## Success (R182, R195) -/

/-- The delivery of OK at the end of a body, field by field. -/
theorem delivered_eq {r : Request} (hr : r ≠ .shutdown) (s : State) (others : List RQWord) (ops : List TransportOp)
    (oks rest : List TRWord) (p : List TransportOp) (b : Option PixelCounters) (i : Half) :
    finish .ok { (begun s r others).afterOps ops oks rest p b i with
        lifecycle := successLifecycle r ((begun s r others).afterOps ops oks rest p b i).lifecycle } =
      { s with
        lifecycle := successLifecycle r s.lifecycle, busy := false, busMode := modeAfterOps ops s.busMode
        lastErr := .ok, spc := i, held := none, pending := [], burst := none, outstanding := none, failed := false
        requests := others, responses := rest, issued := s.issued ++ ops.map TransportOp.word
        answered := s.answered ++ oks, replies := s.replies ++ [rsWord (successLifecycle r s.lifecycle) .ok] } := by
  cases r with
  | reset | init | setWindowColor | setPixel => rfl
  | shutdown => exact absurd rfl hr

/-! ## Failure (R187) -/

/-- The three block steps from the issue of an operation that fails to the entry of TransportFailure. -/
theorem run_failure {bad : TRWord} {rest : List TRWord} (hs : BetweenOps s) (hne : remaining s ≠ [])
    (hr : s.responses = bad :: rest) (hbad : trFail bad = true) :
    ∃ op more, remaining s = (op, s.spc.toNat) :: more ∧
      runFor 3 s =
        .next (raiseError .transportFailure { s with
          busMode := busModeAfter op true s.busMode, responses := rest, issued := s.issued ++ [op.word]
          answered := s.answered ++ [bad] }) := by
  obtain ⟨op, ops, b, hissue⟩ := exists_issuesNext hs hne
  refine ⟨op, _, remaining_eq_cons hs hissue bad rest, ?_⟩
  obtain ⟨-, hb, ho, hf, -⟩ := hs
  obtain ⟨hstep, -, -⟩ := hissue
  have hreceive := step_issueOp (s := { s with pending := ops, burst := b }) (op := op) hb hr
  have hfailed := step_failed (s := receiveResponse op bad rest (issueOp op { s with pending := ops, burst := b }))
    (by simp [hb]) (receiveResponse_outstanding ..) (by simp [hbad])
  rw [runFor_succ_of_step hstep, runFor_succ_of_step hreceive, runFor_succ_of_step hfailed, receiveResponse_fail hbad]
  rfl

/-! ## A transport that stops answering (R262) -/

/-- A run only adds to the responses delivered. -/
theorem runFor_replies_prefix {n : Nat} (h : runFor n s = .next t) : s.replies <+: t.replies := by
  refine runFor_keeps (P := fun u => s.replies <+: u.replies) (fun u v hu hstep => hu.trans ?_) (List.prefix_refl _) h
  obtain heq | ⟨l, e, heq⟩ := step_replies hstep
  · rw [heq]
  · exact ⟨_, heq.symm⟩

/-- While BUSY = 1 a block step that delivers no response leaves BUSY = 1 (R40). -/
theorem busy_of_step (hb : s.busy = true) (h : step s = .next t) (hr : t.replies = s.replies) : t.busy = true := by
  cases channelMove_of_step h with
  | answered rq rs hb' | begun rq hb' => rw [hb] at hb'; cases hb'
  | delivered rs hb' hq hb'' hr' => simp [hr] at hr'
  | quiet hq hb' => rw [hb', hb]

/-- While BUSY = 1 a run that delivers no response leaves BUSY = 1. -/
theorem busy_of_runFor {n : Nat} (hb : s.busy = true) (h : runFor n s = .next t) (hr : t.replies = s.replies) :
    t.busy = true := by
  induction n generalizing s with
  | zero => cases h; exact hb
  | succ n ih =>
    rw [runFor] at h
    split at h
    · next u hu =>
      have hsu : s.replies <+: u.replies := runFor_replies_prefix (n := 1) (by rw [runFor, hu]; rfl)
      have hut := runFor_replies_prefix h
      have heq : u.replies = s.replies :=
        (hsu.eq_of_length_le (by rw [← hr]; exact hut.length_le)).symm
      exact ih (busy_of_step hb hu heq) h (hr.trans heq.symm)
    · cases h
    · cases h

/-- A body in which operations remain and the transport has no answer is, after the issue of the first, where every block
step leaves it. -/
theorem step_stuck (hs : BetweenOps s) (hne : remaining s ≠ []) (hr : s.responses = []) :
    ∃ t, step s = .next t ∧ t.replies = s.replies ∧ step t = .next t := by
  obtain ⟨op, ops, b, hstep, -⟩ := exists_issuesNext hs hne
  obtain ⟨-, hb, -⟩ := hs
  exact ⟨_, hstep, rfl, step_awaiting (by exact hb) (issueOp_outstanding ..) (by exact hr)⟩

end Sys2Proof.Machine

namespace Sys2Proof

open Machine

/-- Settles O23: by the step's first block step and its run. -/
theorem cmdSendsCommand : Obligations.CmdSendsCommand := by
  refine ⟨fun s b ho => exec_step_issue (st := .cmd b) rfl ho, ?_⟩
  intro s w b tr1 tr2 rest hb ho hf hp hh hw hd hr h1 h2
  rw [run_byteStep (st := .cmd b) hb ho hf hp hh hw hd rfl hr h1 h2]
  rfl

/-- Settles O24: by the step's first block step and its run. -/
theorem dataSendsData : Obligations.DataSendsData := by
  refine ⟨fun s b ho => exec_step_issue (st := .data b) rfl ho, ?_⟩
  intro s w b tr1 tr2 rest hb ho hf hp hh hw hd hr h1 h2
  rw [run_byteStep (st := .data b) hb ho hf hp hh hw hd rfl hr h1 h2]
  rfl

/-- Settles O25: by the step's first block step and the receipt of its one response. -/
theorem delaySleeps : Obligations.DelaySleeps := by
  refine ⟨fun s ms ho => exec_step_issue (st := .delay ms) rfl ho, ?_⟩
  intro s w ms tr rest hb ho hf hp hh hw hd hr htr
  have hstep := step_scriptOps (st := .delay ms) hb ho hf hp hh hw hd rfl
  rw [run_issue_receive hb ho hstep hr htr, show spcAfter s [] = s.spc + 1 by simp [spcAfter, hh]]
  simp only [State.afterOps, hp]
  rfl

/-- Settles O56: the body's operations succeed one by one until none remains, and the next block step is the delivery; the
walk ends at the end index. -/
theorem successfulRequestRuns : Obligations.SuccessfulRequestRuns := by
  intro s r others oks rest hb hc hr hq hk hresp hok hlen
  have hoffers : Offers s r others := ⟨hb, hc, hr, hq, hk⟩
  obtain ⟨done, p, b, i, hdone, hrem, hrun, hafter, hspc⟩ := run_request hoffers hresp hok hlen.le
  obtain ⟨-, -, hops⟩ := step_begun hoffers
  obtain ⟨hheld, -⟩ := begun_frame hr s others
  have hnil : remaining ((begun s r others).afterOps (done.map Prod.fst) oks rest p b i) = [] := by
    have hall := congrArg List.length hrem
    rw [← List.length_map (f := Prod.fst), hops, List.length_append] at hall
    exact List.length_eq_zero_iff.mp (by omega)
  rw [hrem, hnil, List.append_nil] at hops
  have hi : i = successSpc s.config r s.spc := by
    cases r with
    | init =>
      obtain ⟨-, hend⟩ := spc_of_remaining_nil hafter hnil hheld
      have hend' : i.toNat = endIndex s.config.script := hend
      rw [successSpc, ← hend', BitVec.ofNat_toNat, BitVec.setWidth_eq]
    | reset | setWindowColor | setPixel | shutdown => exact hspc (by simp)
  rw [runFor_add_of_next (m := 2 * oks.length + 1) (n := 1) hrun,
    runFor_succ_of_step (step_of_remaining_nil hafter hnil hheld), delivered_eq hr, hops, hi]
  rfl

/-- Settles O57: the first operations succeed, and the next is issued, fails, and its failure is entered; SPC is the one
the failed operation was issued at. -/
theorem failedRequestRuns : Obligations.FailedRequestRuns := by
  intro s r others oks rest bad hb hc hr hq hk hresp hok hbad hlen
  have hoffers : Offers s r others := ⟨hb, hc, hr, hq, hk⟩
  obtain ⟨done, p, b, i, hdone, hrem, hrun, hafter, hspc⟩ := run_request hoffers hresp hok hlen.le
  obtain ⟨-, -, hops⟩ := step_begun hoffers
  obtain ⟨-, howned, hconfig, hissued, hanswered, hreplies, hrequests, -⟩ := begun_frame hr s others
  rw [hrem] at hops
  obtain ⟨op, last, hlast, hfail⟩ := run_failure hafter (more_ne_nil hops (by rw [hdone]; exact hlen)) rfl hbad
  rw [hlast] at hrem hops
  have htake : (bodyOps s.config r).take (oks.length + 1) = done.map Prod.fst ++ [op] := by
    rw [← hops, ← hdone, List.map_append, ← List.length_map (f := Prod.fst), List.take_length_add_append]
    rfl
  have hrs : rsWord .faulted .transportFailure = 0x00000501 := by decide
  refine ⟨_, (runFor_add_of_next hrun 3).trans hfail, rfl, rfl, rfl, ⟨rfl, rfl, rfl, rfl, rfl⟩, ?_, ?_, ?_, rfl,
    hrequests, howned, hconfig, hspc, ?_⟩
  · exact congrArg₂ (fun replies rs => replies ++ [rs]) hreplies hrs
  · rw [raiseError_issued, htake]
    simp only [State.afterOps, hissued, List.map_append, List.append_assoc]
    rfl
  · rw [raiseError_answered]
    simp only [State.afterOps, hanswered]
  · rintro rfl
    refine ⟨_, ?_, rfl⟩
    have hindices : (done ++ (op, i.toNat) :: last).map Prod.snd = walkIndices s.config.script := by
      rw [← walkFrom_one_indices]
      exact congrArg _ hrem.symm
    rw [← hindices, ← hdone]
    simp [State.afterOps]

/-- Settles O58: when the transport has given its last answer the next operation is issued, and no block step moves the block
from there; a run to an earlier state has delivered no response either, and BUSY falls with a response alone. -/
theorem unansweredRequestNeverEnds : Obligations.UnansweredRequestNeverEnds := by
  intro s r others n hb hc hr hq hk hok hlen
  have hoffers : Offers s r others := ⟨hb, hc, hr, hq, hk⟩
  obtain ⟨done, p, b, i, hdone, hrem, hrun, hafter, -⟩ := run_request hoffers (List.append_nil _).symm hok hlen.le
  obtain ⟨hstep, ⟨-, hbusy, -⟩, hops⟩ := step_begun hoffers
  obtain ⟨-, -, -, -, -, hreplies, -⟩ := begun_frame hr s others
  rw [hrem] at hops
  obtain ⟨t, hissue, ht, hstuck⟩ := step_stuck hafter (more_ne_nil hops (by rw [hdone]; exact hlen)) rfl
  have hlong : runFor (n + (2 * s.responses.length + 2)) s = .next t := by
    rw [show n + (2 * s.responses.length + 2) = 2 * s.responses.length + 1 + (n + 1) by omega,
      runFor_add_of_next hrun, runFor_succ_of_step hissue, runFor_of_step_self hstuck]
  obtain ⟨u, hu⟩ := runFor_prefix_of_next hlong
  have hquiet : u.replies = s.replies := by
    have hsu := runFor_replies_prefix hu
    have hut := runFor_replies_prefix ((runFor_add_of_next hu _).symm.trans hlong)
    rw [ht.trans hreplies] at hut
    exact (hsu.eq_of_length_le hut.length_le).symm
  refine ⟨u, hu, hquiet, fun hn => ?_⟩
  obtain ⟨n, rfl⟩ : ∃ k, n = k + 1 := ⟨n - 1, by omega⟩
  rw [runFor_succ_of_step hstep] at hu
  exact busy_of_runFor hbusy hu (hquiet.trans hreplies.symm)

/-- Settles O59: RESET's body and INITIALIZE's, one after the other. -/
theorem bootOrderReachesReady : Obligations.BootOrderReachesReady := by
  intro c oks hc hwf hok hlen
  have hsplit := (List.take_append_drop 4 oks).symm
  rw [hsplit, allOk, List.all_append, Bool.and_eq_true] at hok
  obtain ⟨hok1, hok2⟩ := hok
  have hlen1 : (oks.take 4).length = 4 := by rw [List.length_take]; omega
  have hlen2 : (oks.drop 4).length = (walkOps c.script).length := by rw [List.length_drop]; omega
  have hreset := successfulRequestRuns
    { State.construct c with requests := [Request.word .reset, Request.word .init], responses := oks }
    .reset _ _ (oks.drop 4) rfl hc (by decide) rfl rfl hsplit hok1 hlen1
  have hinit := (runFor_add_of_next hreset (2 * (oks.drop 4).length + 2)).trans
    (successfulRequestRuns _ .init [] (oks.drop 4) [] rfl hc (by decide) rfl (if_pos hwf) (List.append_nil _).symm hok2
      hlen2)
  have hsteps : 2 * oks.length + 4 = 2 * (oks.take 4).length + 2 + (2 * (oks.drop 4).length + 2) := by omega
  have hspc : (BitVec.ofNat 16 (endIndex c.script)).toNat = endIndex c.script := by
    have hlt := endIndex_lt_65535 hc hwf
    rw [BitVec.toNat_ofNat]
    omega
  refine ⟨_, hsteps ▸ hinit, rfl, rfl, ?_, List.map_append.symm, hspc, rfl⟩
  exact (by decide : [rsWord .resetting .ok, rsWord .ready .ok] = [0x00000100, 0x00000300])

end Sys2Proof
